-- ==== Sys2Proof/Word.lean ====
section
/-! DEFINITION. The word types of the block: bytes, step words, 32-bit values, packets (spec 00_scope R7, R11). -/

namespace Sys2Proof

/-- A received, buffered or transmitted byte. -/
abbrev Byte := BitVec 8

/-- A 16-bit step word (30_encoding R70). -/
abbrev Word := BitVec 16

/-- A 32-bit value: the command code and the two timer counts. -/
abbrev Word32 := BitVec 32

/-- PKT_SIZE and RESP_SIZE: 64 bytes exactly (00_scope R7). -/
abbrev pktSize : Nat := 64

/-- PEEK_BYTES: the early peek needs 4 bytes (00_scope R7). -/
abbrev peekBytes : Nat := 4

/-- A request or a response: 64 bytes. -/
abbrev Packet := Vector Byte pktSize

end Sys2Proof
end

