-- ==== Sys2Proof/Config.lean ====
section
/-! DEFINITION. The parameters of the block (spec 00_scope R8) and the values the spec leaves free. -/

namespace Sys2Proof

/-- WDT_MODE: when the watchdog runs (92 D13). -/
inductive WdtMode where
  | atPhaseB | atReset | disabled
deriving DecidableEq, Repr

/-- TIMEOUT_POLICY: what a timeout does with a partial packet (92 D7). -/
inductive TimeoutPolicy where
  | discardPartial | flushPartial
deriving DecidableEq, Repr

/-- CONNECT_TAIL_POLICY: what becomes of the rest of the triggering CONNECT packet (92 D11). -/
inductive TailPolicy where
  | discard | deliver
deriving DecidableEq, Repr

/-- The parameters of 00_scope R8, all but PARSE_FN. Plain data that no step changes: a statement about every state
holds for every value of each parameter (assumption log 2). The three policies carry the spec's defaults; the five
OPEN parameters have none. -/
structure Config where
  connectCode         : Word32
  rxFifoDepth         : Nat
  txFifoDepth         : Nat
  connectTimeoutTicks : Word32
  wdtTimeoutTicks     : Word32
  wdtMode             : WdtMode := .atPhaseB
  timeoutPolicy       : TimeoutPolicy := .discardPartial
  connectTailPolicy   : TailPolicy := .discard
deriving DecidableEq, Repr

/-- The example configuration E of 95_test_vectors, which State.reset carries. DESIGN CHOICE, unsafe (assumption log
1): 93_implementation_defined says these values are chosen for the examples and are no claim about the chip. -/
def Config.example95 : Config where
  connectCode := 0x000000AE
  rxFifoDepth := 16
  txFifoDepth := 16
  connectTimeoutTicks := 3
  wdtTimeoutTicks := 2

/-- PARSE_FN, the external command parser: any function of the 64 request bytes (00_scope R9, 92 D19). OPEN: no body,
so every statement holds for every parser (assumption log 6). -/
opaque Config.parseFn : Packet → Packet

/-- draw() of a byte: the n-th free byte (00_scope R14). No body, so nothing constrains it (assumption log 5). -/
opaque Config.drawByte : Nat → Byte

/-- A free 32-bit count, for the one decrement the rules give no result for (assumption log 9). -/
opaque Config.drawCount : Nat → Word32

end Sys2Proof
end

