-- ==== Sys2Proof/Syntax.lean ====
section
/-! DEFINITION. The 24 steps of the block, one constructor per row of spec/opcode_table.json (30_encoding R70 to R72). -/

namespace Sys2Proof

/-- The six agents (00_scope R3). -/
inductive Agent where
  | lineRx | lineTx | timer | isr | main | sys
deriving DecidableEq, Repr

/-- A step of the block. RX_BYTE carries the received byte, the only operand of a step word (30_encoding R71). -/
inductive Instr where
  /-- RX_BYTE (R100). -/
  | rxByte (data : Byte)
  /-- RX_SILENCE (R101). -/
  | rxSilence
  /-- TX_TAKE (R146). -/
  | txTake
  /-- TICK (R160). -/
  | tick
  /-- ISR_ENTRY (R103). -/
  | isrEntry
  /-- ISR_DRAIN (R104). -/
  | isrDrain
  /-- ISR_EXIT (R105). -/
  | isrExit
  /-- CW_TEST_READY (R120). -/
  | cwTestReady
  /-- CW_TEST_CURSOR (R121). -/
  | cwTestCursor
  /-- CW_READ (R122). -/
  | cwRead
  /-- CW_DECIDE (R123). -/
  | cwDecide
  /-- CW_REJECT_READY (R125). -/
  | cwRejectReady
  /-- CW_REJECT_CURSOR (R126). -/
  | cwRejectCursor
  /-- CW_DEADLINE (R127). -/
  | cwDeadline
  /-- CT_POLL_CURSOR (R128). -/
  | ctPollCursor
  /-- CT_POLL_READY (R129). -/
  | ctPollReady
  /-- CT_CLEAR (R130). -/
  | ctClear
  /-- S_POLL (R140). -/
  | sPoll
  /-- S_KICK (R141). -/
  | sKick
  /-- S_CLEAR (R142). -/
  | sClear
  /-- S_PARSE_BEGIN (R143). -/
  | sParseBegin
  /-- S_PARSE_END (R144). -/
  | sParseEnd
  /-- S_TX (R145). -/
  | sTx
  /-- EXT_RESET (R161). -/
  | extReset
deriving DecidableEq, Repr

/-- The agent that takes the step (30_encoding R72). -/
def Instr.agent : Instr → Agent
  | .rxByte _ => .lineRx
  | .rxSilence => .lineRx
  | .txTake => .lineTx
  | .tick => .timer
  | .isrEntry => .isr
  | .isrDrain => .isr
  | .isrExit => .isr
  | .cwTestReady => .main
  | .cwTestCursor => .main
  | .cwRead => .main
  | .cwDecide => .main
  | .cwRejectReady => .main
  | .cwRejectCursor => .main
  | .cwDeadline => .main
  | .ctPollCursor => .main
  | .ctPollReady => .main
  | .ctClear => .main
  | .sPoll => .main
  | .sKick => .main
  | .sClear => .main
  | .sParseBegin => .main
  | .sParseEnd => .main
  | .sTx => .main
  | .extReset => .sys

end Sys2Proof
end

