-- ==== Sys2Proof/WellFormed.lean ====
section
/-! DEFINITION. What the spec calls legal: step words (30_encoding R70, R74) and parameter values (00_scope R8).
A term of Instr is well formed by its type alone: its one operand is 8 bits wide and every other data field is 0. -/

namespace Sys2Proof

/-- How many ops each agent code has (30_encoding R72, R74): an op below the count names a step. -/
def opCount (agent : Nat) : Nat :=
  match agent with
  | 1 => 2
  | 2 => 1
  | 3 => 1
  | 4 => 3
  | 5 => 16
  | 6 => 1
  | _ => 0

/-- A step word that is not reserved (30_encoding R74): a known agent and op, and data 0 unless it is RX_BYTE. -/
def Word.wellFormed (w : Word) : Bool :=
  decide (w.toNat / 256 % 16 < opCount (w.toNat / 4096)) && (decide (w.toNat / 256 = 0x10) || decide (w.toNat % 256 = 0))

/-- The legal values of 00_scope R8: depths at least 1, timer parameters 1 to 2^32-1. -/
def Config.wellFormed (c : Config) : Bool :=
  decide (1 ≤ c.rxFifoDepth) && decide (1 ≤ c.txFifoDepth) && decide (c.connectTimeoutTicks ≠ 0)
    && decide (c.wdtTimeoutTicks ≠ 0)

end Sys2Proof
end

