-- ==== Sys2Proof/Decode.lean ====
section
/-! DEFINITION. Decoding and encoding of step words (spec 30_encoding R70 to R74). -/

namespace Sys2Proof

/-- Why a word is INVALID, after the three lists of 30_encoding R74 (the names are the model's, assumption log 16). -/
inductive InvalidWord where
  /-- Agent 0x0 or 0x7..0xF. -/
  | reservedAgent
  /-- An op its agent does not have. -/
  | reservedOp
  /-- A step other than RX_BYTE whose data field is not 0x00. -/
  | nonzeroData
deriving DecidableEq, Repr

/-- What a step word decodes to: a step, or INVALID. -/
inductive Decoded where
  | step (i : Instr)
  | invalid (why : InvalidWord)
deriving DecidableEq, Repr

/-- Bits [15:12]. -/
def agentField (w : Word) : BitVec 4 := w.extractLsb' 12 4

/-- Bits [11:8]. -/
def opField (w : Word) : BitVec 4 := w.extractLsb' 8 4

/-- Bits [7:0]. -/
def dataField (w : Word) : Byte := w.extractLsb' 0 8

/-- A row of the step map (30_encoding R72): its match word, its mask, and the step of a data byte. -/
structure MapRow where
  pattern : Word
  mask    : Word
  build   : Byte → Instr

/-- The rows of the line, timer and reset agents. -/
def lineRows : List MapRow :=
  [ ⟨0x1000, 0xFF00, fun b => .rxByte b⟩,
    ⟨0x1100, 0xFFFF, fun _ => .rxSilence⟩,
    ⟨0x2000, 0xFFFF, fun _ => .txTake⟩,
    ⟨0x3000, 0xFFFF, fun _ => .tick⟩,
    ⟨0x6000, 0xFFFF, fun _ => .extReset⟩ ]

/-- The rows of the receive interrupt context. -/
def isrRows : List MapRow :=
  [ ⟨0x4000, 0xFFFF, fun _ => .isrEntry⟩,
    ⟨0x4100, 0xFFFF, fun _ => .isrDrain⟩,
    ⟨0x4200, 0xFFFF, fun _ => .isrExit⟩ ]

/-- The rows of the main sequencer; the op field is the `main_pc` value of the micro-op. -/
def mainRows : List MapRow :=
  [ ⟨0x5000, 0xFFFF, fun _ => .cwTestReady⟩,
    ⟨0x5100, 0xFFFF, fun _ => .cwTestCursor⟩,
    ⟨0x5200, 0xFFFF, fun _ => .cwRead⟩,
    ⟨0x5300, 0xFFFF, fun _ => .cwDecide⟩,
    ⟨0x5400, 0xFFFF, fun _ => .cwRejectReady⟩,
    ⟨0x5500, 0xFFFF, fun _ => .cwRejectCursor⟩,
    ⟨0x5600, 0xFFFF, fun _ => .cwDeadline⟩,
    ⟨0x5700, 0xFFFF, fun _ => .ctPollCursor⟩,
    ⟨0x5800, 0xFFFF, fun _ => .ctPollReady⟩,
    ⟨0x5900, 0xFFFF, fun _ => .ctClear⟩,
    ⟨0x5A00, 0xFFFF, fun _ => .sPoll⟩,
    ⟨0x5B00, 0xFFFF, fun _ => .sKick⟩,
    ⟨0x5C00, 0xFFFF, fun _ => .sClear⟩,
    ⟨0x5D00, 0xFFFF, fun _ => .sParseBegin⟩,
    ⟨0x5E00, 0xFFFF, fun _ => .sParseEnd⟩,
    ⟨0x5F00, 0xFFFF, fun _ => .sTx⟩ ]

/-- The complete step map (30_encoding R72). -/
def stepMap : List MapRow := lineRows ++ isrRows ++ mainRows

/-- The class of 30_encoding R74 an INVALID word falls in. -/
def invalidReason (w : Word) : InvalidWord :=
  if opCount (agentField w).toNat = 0 then .reservedAgent
  else if opCount (agentField w).toNat ≤ (opField w).toNat then .reservedOp
  else .nonzeroData

/-- 30_encoding R74: the step whose `word & mask = match`; every other word is INVALID. -/
def decode (w : Word) : Decoded :=
  match stepMap.find? (fun r => w &&& r.mask == r.pattern) with
  | some r => .step (r.build (dataField w))
  | none => .invalid (invalidReason w)

/-- The step word of a step (30_encoding R72): RX_BYTE carries its byte in bits [7:0], every other step 0x00. -/
def encode (i : Instr) : Word :=
  match i with
  | .rxByte b => (0x10 : BitVec 8) ++ b
  | .rxSilence => 0x1100
  | .txTake => 0x2000
  | .tick => 0x3000
  | .isrEntry => 0x4000
  | .isrDrain => 0x4100
  | .isrExit => 0x4200
  | .cwTestReady => 0x5000
  | .cwTestCursor => 0x5100
  | .cwRead => 0x5200
  | .cwDecide => 0x5300
  | .cwRejectReady => 0x5400
  | .cwRejectCursor => 0x5500
  | .cwDeadline => 0x5600
  | .ctPollCursor => 0x5700
  | .ctPollReady => 0x5800
  | .ctClear => 0x5900
  | .sPoll => 0x5A00
  | .sKick => 0x5B00
  | .sClear => 0x5C00
  | .sParseBegin => 0x5D00
  | .sParseEnd => 0x5E00
  | .sTx => 0x5F00
  | .extReset => 0x6000

/-- The decoder on a table row's bits: a step word is one 16-bit word, so bits from 16 up are no part of it. -/
def decodeTableWord (nbits w : Nat) : Option Instr :=
  match decode (BitVec.ofNat 16 (w % 2 ^ nbits)) with
  | .step i => some i
  | .invalid _ => none

end Sys2Proof
end

