-- ==== Sys2Proof/Machine/State.lean ====
section
/-! DEFINITION. The complete state of the block (spec 10_state R20, R21), the reasons a step can stop, and the state
after power-on (70_reset_and_hazards R190, R191). -/

namespace Sys2Proof.Machine

/-- A byte space of 64 cells (20_memory R50): (index, byte) pairs with strictly rising indices. An index with no entry
is UNWRITTEN (10_state R25; assumption log 12). -/
abbrev Memory := List Host.Cell

/-- `isr_pc` (10_state R29). -/
inductive IsrPc where
  | idle | drain | exit
deriving DecidableEq, Repr

/-- `main_pc` (10_state R30): the sixteen micro-ops, values 0 to 15 in this order, and BOOTED, value 16. -/
inductive MainPc where
  | cwTestReady | cwTestCursor | cwRead | cwDecide | cwRejectReady | cwRejectCursor | cwDeadline
  | ctPollCursor | ctPollReady | ctClear
  | sPoll | sKick | sClear | sParseBegin | sParseEnd | sTx
  | booted
deriving DecidableEq, Repr

/-- The byte spaces a fault can name (60_exceptions R170). -/
inductive Space where
  | rxBuf | respBuf
deriving DecidableEq, Repr

/-- The fault codes other than NONE (60_exceptions R170). -/
inductive FaultCode where
  /-- Code 1. -/
  | unwrittenRead
deriving DecidableEq, Repr

/-- What `fault` records (10_state R40): code, space, and the cell index. -/
structure FaultRecord where
  code  : FaultCode
  space : Space
  addr  : Nat
deriving DecidableEq, Repr

/-- `last_reset_cause` (10_state R40): POWER_ON 0, WATCHDOG 1, EXTERNAL 2. -/
inductive ResetCause where
  | powerOn | watchdog | external
deriving DecidableEq, Repr

/-- The state of the block. Every field down to `lastResetCause` is an element of 10_state R21; the last four are the
model's own (assumption logs 2, 3, 5), and no reset of the block touches them. -/
structure State where
  /-- The Receive Buffer (R22). -/
  rxBuf : Memory
  /-- The write cursor, 0..64 (R23). -/
  cursor : BitVec 7
  /-- The Ready Flag (R24). -/
  ready : Bool
  /-- The receive FIFO, oldest byte first (R26). -/
  rxFifo : List Byte
  /-- The receive-timeout condition (R27). -/
  rxToutPending : Bool
  /-- Sticky: a byte was lost to a full receive FIFO (R28). -/
  rxOverflow : Bool
  /-- The receive interrupt context's place (R29). -/
  isrPc : IsrPc
  /-- The timeout latched at ISR_ENTRY (R29). -/
  isrTout : Bool
  /-- The main sequencer's place (R30). -/
  mainPc : MainPc
  /-- The latched command code; `none` is UNWRITTEN (R31). -/
  cmdWord : Option Word32
  /-- `cursor = 0` as CT_POLL_CURSOR saw it (R32). -/
  ctZero : Bool
  /-- The request bytes handed to the parser (R33). -/
  reqLatch : Memory
  /-- A byte was drained inside the parse window (R33). -/
  parseDirty : Bool
  /-- The Response Buffer (R34). -/
  respBuf : Memory
  /-- The next response byte to transmit, 0..64 (R34). -/
  txIndex : BitVec 7
  /-- The transmit FIFO, oldest byte first (R35). -/
  txFifo : List Byte
  /-- Every byte that has left on the line, in order (R35). -/
  txOut : List Byte
  /-- Ticks left before the connect deadline (R36). -/
  dlCount : Word32
  /-- The deadline has expired; sticky until reset (R36). -/
  dlExpired : Bool
  /-- The watchdog counts (R39). -/
  wdtEnabled : Bool
  /-- Ticks left before the watchdog resets the block (R39). -/
  wdtCount : Word32
  /-- NONE, or the first fault raised (R40). -/
  fault : Option FaultRecord
  /-- Which reset loaded the state (R40). -/
  lastResetCause : ResetCause
  /-- The model's own: the parameters (00_scope R8), constant along every run. -/
  cfg : Config
  /-- The model's own: the step words still to be taken (00_scope R18). -/
  trace : List Word
  /-- The model's own: the position in the trace of its next word (60_exceptions R172). -/
  tracePos : Nat
  /-- The model's own: how many free values have been drawn (00_scope R14). -/
  draws : Nat
deriving DecidableEq, Repr

/-- What stops the machine. The spec's own fault UNWRITTEN_READ is not among these: it is a next state that records it
in `State.fault` (00_scope R14; assumption log 11). -/
inductive Fault where
  /-- S_TX would read a cell past the 64 of RESPBUF. 20_memory R51: an out-of-range access has no rule. It cannot
  happen in a reachable state (10_state R41 (3)). Safe (assumption log 10). -/
  | noSuchCell (space : Space) (index : Nat)
deriving DecidableEq, Repr

/-- Why a word has no transition (60_exceptions R172): it writes no state. -/
inductive Refusal where
  /-- Raised by exec's arm of a step that has no meaning yet. Safe. No arm raises it. -/
  | notModelled (mnemonic : String)
  /-- INVALID_WORD: raised by step on a word that names no step (30_encoding R74), with its position in the trace.
  Safe: the spec's own outcome. -/
  | invalidWord (pos : Nat) (why : InvalidWord)
  /-- NOT_ENABLED: raised by every meaning when its guard is false (30_encoding R75), with the word's position in the
  trace. Safe: the spec's own outcome. -/
  | notEnabled (pos : Nat)
  /-- Raised by step when no step word is left, so no step is named (assumption log 3). Safe: the run is over. -/
  | endOfTrace (pos : Nat)
deriving DecidableEq, Repr

/-- The initial state of a run under the parameters `c`: `Reset(POWER_ON)` with `tx_out` empty (70_reset_and_hazards
R190, R191), no step word placed and nothing drawn. -/
def State.powerOn (c : Config) : State where
  rxBuf := []
  cursor := 0
  ready := false
  rxFifo := []
  rxToutPending := false
  rxOverflow := false
  isrPc := .idle
  isrTout := false
  mainPc := .cwTestReady
  cmdWord := none
  ctZero := false
  reqLatch := []
  parseDirty := false
  respBuf := []
  txIndex := 0
  txFifo := []
  txOut := []
  dlCount := c.connectTimeoutTicks
  dlExpired := false
  wdtEnabled := decide (c.wdtMode = .atReset)
  wdtCount := c.wdtTimeoutTicks
  fault := none
  lastResetCause := .powerOn
  cfg := c
  trace := []
  tracePos := 0
  draws := 0

/-- The machine right after reset: `State.powerOn` under the example configuration E of 95_test_vectors, the state the
spec writes S0(POWER_ON). DESIGN CHOICE for the OPEN parameters (assumption log 1). -/
def State.reset : State := State.powerOn Config.example95

end Sys2Proof.Machine
end

