-- ==== Sys2Proof/Machine/Ops.lean ====
section
/-! DEFINITION. The named operations over the byte spaces and the state: MemRead and MemWrite, the guards, raising a
fault, entering and leaving the interrupt context, Reset, and placing and taking step words. -/

namespace Sys2Proof.Machine

/-! ### Byte spaces (20_memory R50, 00_scope R13) -/

/-- The canonical form of a byte space: indices strictly rising, every index below 64. An UNWRITTEN cell has no
entry, so no entry equals what an unlisted index reads as. -/
abbrev Memory.wf (m : Memory) : Prop :=
  m.Pairwise (fun x y => x.1 < y.1) ∧ ∀ c ∈ m, c.1 < pktSize

/-- One cell; `none` is UNWRITTEN (10_state R25). -/
def Memory.read (m : Memory) (a : Nat) : Option Byte :=
  match m with
  | [] => none
  | (k, v) :: rest => if k = a then some v else Memory.read rest a

/-- Writes one cell and keeps the canonical form. -/
def Memory.write (m : Memory) (a : Nat) (b : Byte) : Memory :=
  match m with
  | [] => [(a, b)]
  | (k, v) :: rest =>
    if a < k then (a, b) :: (k, v) :: rest
    else if a = k then (a, b) :: rest
    else (k, v) :: Memory.write rest a b

/-- The bytes `a .. a+n-1`, or the lowest UNWRITTEN index among them. -/
def Memory.readN (m : Memory) (a : Nat) (n : Nat) : Except Nat (Vector Byte n) :=
  match n with
  | 0 => .ok #v[]
  | k + 1 =>
    match Memory.readN m a k with
    | .error e => .error e
    | .ok bs =>
      match Memory.read m (a + k) with
      | none => .error (a + k)
      | some b => .ok (bs.push b)

/-- The byte space that holds the given bytes at `a`, `a+1`, ... and nothing else. -/
def Memory.ofBytes (a : Nat) (bs : List Byte) : Memory :=
  match bs with
  | [] => []
  | b :: rest => (a, b) :: Memory.ofBytes (a + 1) rest

/-- The byte space with all 64 cells written. -/
def Memory.ofPacket (p : Packet) : Memory := Memory.ofBytes 0 p.toList

/-- The byte space a fault names. -/
def State.memory (s : State) (sp : Space) : Memory :=
  match sp with
  | .rxBuf => s.rxBuf
  | .respBuf => s.respBuf

/-- MemRead (00_scope R13): the bytes, or the fault UNWRITTEN_READ at the lowest UNWRITTEN index (60_exceptions R170). -/
def State.memRead (s : State) (sp : Space) (a n : Nat) : Except FaultRecord (Vector Byte n) :=
  match Memory.readN (s.memory sp) a n with
  | .ok bs => .ok bs
  | .error e => .error { code := .unwrittenRead, space := sp, addr := e }

/-! ### Guards (00_scope R15, 30_encoding R75) -/

/-- The global guard: no fault, not BOOTED. -/
def State.active (s : State) : Bool := decide (s.fault = none) && decide (s.mainPc ≠ .booted)

/-- The guard of the MAIN step at `m`: the interrupt context is idle and `main_pc` is the step's op. -/
def State.mainAt (s : State) (m : MainPc) : Bool :=
  s.active && decide (s.isrPc = .idle) && decide (s.mainPc = m)

/-- The guard of the ISR step that belongs to `p`. -/
def State.isrAt (s : State) (p : IsrPc) : Bool := s.active && decide (s.isrPc = p)

/-- A step is taken when its guard holds; otherwise the word is refused NOT_ENABLED and no state is written
(60_exceptions R172). -/
def takeIf (g : Bool) (s : State) (o : Host.Outcome State Fault Refusal) : Host.Outcome State Fault Refusal :=
  if g then o else .refused (.notEnabled s.tracePos)

/-! ### Control -/

/-- `main_pc <- m` (00_scope R14). -/
def State.goMain (s : State) (m : MainPc) : State := { s with mainPc := m }

/-- `raise Fault(r)` (00_scope R14): `fault` records it, nothing else is written, and no step is enabled afterwards. -/
def State.raiseFault (s : State) (r : FaultRecord) : State := { s with fault := some r }

/-- Entry to the receive interrupt (R103, R174): the timeout cause is latched and cleared; `main_pc` is kept. -/
def State.enterIsr (s : State) : State :=
  { s with isrTout := s.rxToutPending, rxToutPending := false, isrPc := .drain }

/-- Return from the receive interrupt (R105, R175): nothing is restored, the main sequencer resumes at its `main_pc`. -/
def State.leaveIsr (s : State) : State := { s with isrTout := false, isrPc := .idle }

/-- Reset (70_reset_and_hazards R190): every element at its reset value. `tx_out` is kept by every reset but
POWER_ON; the model's own fields are kept (assumption logs 2, 3, 5). -/
def State.doReset (s : State) (cause : ResetCause) : State :=
  { s with
    rxBuf := []
    cursor := 0
    ready := false
    rxFifo := []
    rxToutPending := false
    rxOverflow := false
    isrPc := .idle
    isrTout := false
    mainPc := .cwTestReady
    cmdWord := none
    ctZero := false
    reqLatch := []
    parseDirty := false
    respBuf := []
    txIndex := 0
    txFifo := []
    txOut := if cause = .powerOn then [] else s.txOut
    dlCount := s.cfg.connectTimeoutTicks
    dlExpired := false
    wdtEnabled := decide (s.cfg.wdtMode = .atReset)
    wdtCount := s.cfg.wdtTimeoutTicks
    fault := none
    lastResetCause := cause }

/-! ### Step words -/

/-- The step word that is next, if any. -/
def State.nextWord (s : State) : Option Word := s.trace.head?

/-- Moves past the step word just taken. -/
def State.advance (s : State) : State := { s with trace := s.trace.tail, tracePos := s.tracePos + 1 }

/-- What step adds around a meaning: a step that is taken also moves past its word; a fault or a refusal stays. -/
def advanceOutcome (o : Host.Outcome State Fault Refusal) : Host.Outcome State Fault Refusal :=
  match o with
  | .next t => .next t.advance
  | .fault f => .fault f
  | .refused r => .refused r

/-- The `main_pc` value of a MAIN step (30_encoding R72: its op field). -/
def microOp (i : Instr) : Option MainPc :=
  match i with
  | .cwTestReady => some .cwTestReady
  | .cwTestCursor => some .cwTestCursor
  | .cwRead => some .cwRead
  | .cwDecide => some .cwDecide
  | .cwRejectReady => some .cwRejectReady
  | .cwRejectCursor => some .cwRejectCursor
  | .cwDeadline => some .cwDeadline
  | .ctPollCursor => some .ctPollCursor
  | .ctPollReady => some .ctPollReady
  | .ctClear => some .ctClear
  | .sPoll => some .sPoll
  | .sKick => some .sKick
  | .sClear => some .sClear
  | .sParseBegin => some .sParseBegin
  | .sParseEnd => some .sParseEnd
  | .sTx => some .sTx
  | .rxByte _ => none
  | .rxSilence => none
  | .txTake => none
  | .tick => none
  | .isrEntry => none
  | .isrDrain => none
  | .isrExit => none
  | .extReset => none

/-- The sequencing a step word needs to be the next step of a state with no fault: the place of the agent that takes
it, the interrupt request of ISR_ENTRY, a queued byte for TX_TAKE. Not a step of the block: it stands for a run that
has come to that place (assumption log 4). -/
def State.select (s : State) (i : Instr) : State :=
  match i with
  | .txTake => if s.txFifo = [] then { s with txFifo := [0] } else s
  | .isrEntry => if s.rxFifo = [] then { s with isrPc := .idle, rxToutPending := true } else { s with isrPc := .idle }
  | .isrDrain => { s with isrPc := .drain }
  | .isrExit => { s with isrPc := .exit }
  | i =>
    match microOp i with
    | some m => { s with isrPc := .idle, mainPc := m }
    | none => s

end Sys2Proof.Machine
end

