-- ==== Sys2Proof/Machine/Operands.lean ====
section
/-! DEFINITION. The operands the steps take from the state: the command code, the request, the response, and the
bytes the FIFOs give. -/

namespace Sys2Proof.Machine

/-- The little-endian 32-bit value of four bytes, `b3 || b2 || b1 || b0` (20_memory R52). -/
def le32 (bs : Vector Byte peekBytes) : Word32 := bs[3] ++ bs[2] ++ bs[1] ++ bs[0]

/-- 64 free bytes, the draws number `n` to `n+63` (00_scope R14). -/
def drawnPacket (n : Nat) : Packet := Vector.ofFn fun i : Fin pktSize => Config.drawByte (n + i.val)

/-- The request the parser read whole: none when a byte was drained inside the parse window (R144), or when a cell of
the latch was never written, which no reachable state has at S_PARSE_END (assumption log 8). -/
def State.request (s : State) : Option Packet :=
  if s.parseDirty then none
  else
    match Memory.readN s.reqLatch 0 pktSize with
    | .ok p => some p
    | .error _ => none

/-- The 64 response bytes of S_PARSE_END (R144): PARSE_FN of a whole request, free draws otherwise. -/
def State.response (s : State) : Packet :=
  match s.request with
  | some p => Config.parseFn p
  | none => drawnPacket s.draws

/-- How many values have been drawn once the response is made. -/
def State.drawsAfterResponse (s : State) : Nat :=
  match s.request with
  | some _ => s.draws
  | none => s.draws + pktSize

/-- `wdt_count - 1` (R160). At 0 the rule states no result that fits the field, so the value is free (assumption log
9); no reachable state counts there (10_state R41 (5)). -/
def State.wdtCountDown (s : State) : Word32 :=
  if s.wdtCount = 0 then Config.drawCount s.draws else s.wdtCount - 1

/-- `wdt_count` after a tick that does not reset (R160): counted down while the watchdog runs. -/
def State.wdtCountAfterTick (s : State) : Word32 := if s.wdtEnabled then s.wdtCountDown else s.wdtCount

/-- How many values have been drawn once the watchdog has counted. -/
def State.drawsAfterTick (s : State) : Nat :=
  if s.wdtEnabled then (if s.wdtCount = 0 then s.draws + 1 else s.draws) else s.draws

/-- `dl_count` after a tick that does not reset (R160): counted down, staying at 0. -/
def State.dlCountAfterTick (s : State) : Word32 := if s.dlCount = 0 then 0 else s.dlCount - 1

/-- `wdt_count` after S_KICK (R141): reloaded while the watchdog runs. -/
def State.wdtCountAfterKick (s : State) : Word32 := if s.wdtEnabled then s.cfg.wdtTimeoutTicks else s.wdtCount

/-- `wdt_count` after the accept (R123): loaded under AT_PHASE_B. -/
def State.wdtCountAtAccept (s : State) : Word32 :=
  if s.cfg.wdtMode = .atPhaseB then s.cfg.wdtTimeoutTicks else s.wdtCount

end Sys2Proof.Machine
end

