-- ==== Sys2Proof/Machine/Flags.lean ====
section
/-! DEFINITION. The conditions the steps test and the flags they compute. -/

namespace Sys2Proof.Machine

/-- Room in the receive FIFO (R100). -/
def State.rxHasRoom (s : State) : Bool := decide (s.rxFifo.length < s.cfg.rxFifoDepth)

/-- "Transmit full" (R145): `tx_fifo.len = TX_FIFO_DEPTH`. The "not full" of 10_state R35 is its negation wherever the FIFO
fits its depth (10_state R41 (2)). -/
def State.txFull (s : State) : Bool := decide (s.txFifo.length = s.cfg.txFifoDepth)

/-- The receive interrupt request (R102): data available, or a pending timeout. -/
def State.rxRequested (s : State) : Bool := decide (s.rxFifo ≠ []) || s.rxToutPending

/-- The cursor is at the capacity of the buffer (R105). -/
def State.packetFull (s : State) : Bool := decide (s.cursor.toNat = pktSize)

/-- The early peek (R121): at least 4 bytes are in. -/
def State.peekReady (s : State) : Bool := decide (peekBytes ≤ s.cursor.toNat)

/-- A short-packet flush is due (R105, R106): the invocation carries a timeout and the packet is partial. -/
def State.flushDue (s : State) : Bool := s.isrTout && decide (0 < s.cursor.toNat)

/-- `ready` after a short-packet flush (R106): kept under DISCARD_PARTIAL, set under FLUSH_PARTIAL. -/
def State.readyAfterFlush (s : State) : Bool :=
  match s.cfg.timeoutPolicy with
  | .discardPartial => s.ready
  | .flushPartial => true

/-- `ready` as ISR_EXIT leaves it (R105). -/
def State.readyAtExit (s : State) : Bool :=
  if s.packetFull then true else if s.flushDue then s.readyAfterFlush else s.ready

/-- `cursor` as ISR_EXIT leaves it (R105): 0 after a full packet or a flush, else kept. -/
def State.cursorAtExit (s : State) : BitVec 7 :=
  if s.packetFull then 0 else if s.flushDue then 0 else s.cursor

/-- `parse_dirty` after ISR_DRAIN writes a cell (R104): set inside the parse window. -/
def State.dirtyAfterDrain (s : State) : Bool := if s.mainPc = .sParseEnd then true else s.parseDirty

/-- The latched code is CONNECT (R123). UNWRITTEN is distinct from every value (10_state R25; assumption log 7). -/
def State.cmdIsConnect (s : State) : Bool := decide (s.cmdWord = some s.cfg.connectCode)

/-- `ct_zero` as CT_POLL_CURSOR latches it (R128). -/
def State.cursorZero (s : State) : Bool := decide (s.cursor = 0)

/-- `wdt_enabled` after the accept (R123): set under AT_PHASE_B. -/
def State.wdtEnabledAtAccept (s : State) : Bool := if s.cfg.wdtMode = .atPhaseB then true else s.wdtEnabled

/-- The watchdog expires on this tick (R160). -/
def State.wdtExpires (s : State) : Bool := s.wdtEnabled && decide (s.wdtCount = 1)

/-- `dl_expired` after a tick (R160): set by the tick that takes the count from 1 to 0, sticky. -/
def State.dlExpiredAfterTick (s : State) : Bool := if s.dlCount = 1 then true else s.dlExpired

/-- Where S_TX goes after a byte (R145): to S_POLL when the byte was the 64th, else it stays. -/
def State.mainPcAfterTx (s : State) : MainPc := if s.txIndex.toNat + 1 = pktSize then .sPoll else s.mainPc

end Sys2Proof.Machine
end

