-- ==== Sys2Proof/Machine/Connect.lean ====
section
/-! DEFINITION. The connect wait and the tail disposal (spec 42_connect): CW_TEST_READY to CT_CLEAR. -/

namespace Sys2Proof.Machine

/-- CW_TEST_READY (R120). -/
def execCwTestReady (s : State) : Host.Outcome State Fault Refusal :=
  takeIf (s.mainAt .cwTestReady) s <| .next (s.goMain (if s.ready then .cwRead else .cwTestCursor))

/-- CW_TEST_CURSOR (R121). -/
def execCwTestCursor (s : State) : Host.Outcome State Fault Refusal :=
  takeIf (s.mainAt .cwTestCursor) s <| .next (s.goMain (if s.peekReady then .cwRead else .cwDeadline))

/-- The command code is latched (R122). -/
def State.latchCmd (s : State) (v : Word32) : State := { s with cmdWord := some v, mainPc := .cwDecide }

/-- CW_READ (R122): latch the little-endian code of cells 0 to 3, or fault on the lowest UNWRITTEN one. -/
def execCwRead (s : State) : Host.Outcome State Fault Refusal :=
  takeIf (s.mainAt .cwRead) s <|
    .next <|
      match s.memRead .rxBuf 0 peekBytes with
      | .ok bs => s.latchCmd (le32 bs)
      | .error r => s.raiseFault r

/-- The accept's effect on the watchdog (R123, R124): started and loaded under AT_PHASE_B. -/
def State.startWdt (s : State) : State :=
  { s with wdtEnabled := s.wdtEnabledAtAccept, wdtCount := s.wdtCountAtAccept }

/-- Where the accept goes (R123, R131). -/
def State.acceptTarget (s : State) : MainPc :=
  match s.cfg.connectTailPolicy with
  | .discard => .ctPollCursor
  | .deliver => .sPoll

/-- CW_DECIDE (R123): accept the CONNECT code, reject any other. -/
def execCwDecide (s : State) : Host.Outcome State Fault Refusal :=
  takeIf (s.mainAt .cwDecide) s <|
    .next (if s.cmdIsConnect then s.startWdt.goMain s.acceptTarget else s.goMain .cwRejectReady)

/-- CW_REJECT_READY (R125). -/
def execCwRejectReady (s : State) : Host.Outcome State Fault Refusal :=
  takeIf (s.mainAt .cwRejectReady) s <| .next { s with ready := false, mainPc := .cwRejectCursor }

/-- CW_REJECT_CURSOR (R126). -/
def execCwRejectCursor (s : State) : Host.Outcome State Fault Refusal :=
  takeIf (s.mainAt .cwRejectCursor) s <| .next { s with cursor := 0, mainPc := .cwDeadline }

/-- CW_DEADLINE (R127): the boot hand-off, or the next iteration. -/
def execCwDeadline (s : State) : Host.Outcome State Fault Refusal :=
  takeIf (s.mainAt .cwDeadline) s <| .next (s.goMain (if s.dlExpired then .booted else .cwTestReady))

/-- CT_POLL_CURSOR (R128). -/
def execCtPollCursor (s : State) : Host.Outcome State Fault Refusal :=
  takeIf (s.mainAt .ctPollCursor) s <| .next { s with ctZero := s.cursorZero, mainPc := .ctPollReady }

/-- CT_POLL_READY (R129). -/
def execCtPollReady (s : State) : Host.Outcome State Fault Refusal :=
  takeIf (s.mainAt .ctPollReady) s <|
    .next (s.goMain (if s.ready then .ctClear else if s.ctZero then .sPoll else .ctPollCursor))

/-- CT_CLEAR (R130). -/
def execCtClear (s : State) : Host.Outcome State Fault Refusal :=
  takeIf (s.mainAt .ctClear) s <| .next { s with ready := false, mainPc := .sPoll }

end Sys2Proof.Machine
end

