-- ==== Sys2Proof/Machine/Framer.lean ====
section
/-! DEFINITION. The Transport Framer's steps (spec 41_framer): RX_BYTE, RX_SILENCE, ISR_ENTRY, ISR_DRAIN, ISR_EXIT. -/

namespace Sys2Proof.Machine

/-- RX_BYTE (R100): push the byte, or lose it and set `rx_overflow` when the FIFO is full. -/
def execRxByte (b : Byte) (s : State) : Host.Outcome State Fault Refusal :=
  takeIf s.active s <|
    .next (if s.rxHasRoom then { s with rxFifo := s.rxFifo ++ [b] } else { s with rxOverflow := true })

/-- RX_SILENCE (R101). -/
def execRxSilence (s : State) : Host.Outcome State Fault Refusal :=
  takeIf s.active s <| .next { s with rxToutPending := true }

/-- ISR_ENTRY (R103), enabled while the request of R102 holds. -/
def execIsrEntry (s : State) : Host.Outcome State Fault Refusal :=
  takeIf (s.isrAt .idle && s.rxRequested) s <| .next s.enterIsr

/-- One byte from the FIFO to the buffer (R104). -/
def State.drainByte (s : State) (b : Byte) (rest : List Byte) : State :=
  { s with
    rxFifo := rest
    rxBuf := Memory.write s.rxBuf s.cursor.toNat b
    cursor := s.cursor + 1
    parseDirty := s.dirtyAfterDrain }

/-- The drain loop ends (R104). -/
def State.endDrain (s : State) : State := { s with isrPc := .exit }

/-- ISR_DRAIN (R104): move one byte while there is one and the cursor is below 64, else go to EXIT. -/
def execIsrDrain (s : State) : Host.Outcome State Fault Refusal :=
  takeIf (s.isrAt .drain) s <|
    .next <|
      match s.rxFifo with
      | [] => s.endDrain
      | b :: rest => if s.cursor.toNat < pktSize then s.drainByte b rest else s.endDrain

/-- The decision after the drain loop (R105, R106): full packet first, then the flush, else keep accumulating. -/
def State.closePacket (s : State) : State := { s with ready := s.readyAtExit, cursor := s.cursorAtExit }

/-- ISR_EXIT (R105). -/
def execIsrExit (s : State) : Host.Outcome State Fault Refusal :=
  takeIf (s.isrAt .exit) s <| .next s.closePacket.leaveIsr

end Sys2Proof.Machine
end

