-- ==== Sys2Proof/Machine/Session.lean ====
section
/-! DEFINITION. The request/response loop and the line transmitter (spec 43_session): S_POLL to S_TX, TX_TAKE. -/

namespace Sys2Proof.Machine

/-- TX_TAKE (R146): the oldest queued byte leaves on the line. -/
def execTxTake (s : State) : Host.Outcome State Fault Refusal :=
  takeIf s.active s <|
    match s.txFifo with
    | [] => .refused (.notEnabled s.tracePos)
    | b :: rest => .next { s with txFifo := rest, txOut := s.txOut ++ [b] }

/-- S_POLL (R140): a spin while `ready` is 0. -/
def execSPoll (s : State) : Host.Outcome State Fault Refusal :=
  takeIf (s.mainAt .sPoll) s <| .next (if s.ready then s.goMain .sKick else s)

/-- S_KICK (R141): reload a running watchdog; a stopped one stays stopped. -/
def execSKick (s : State) : Host.Outcome State Fault Refusal :=
  takeIf (s.mainAt .sKick) s <|
    .next { s with wdtCount := s.wdtCountAfterKick, mainPc := .sClear }

/-- S_CLEAR (R142). -/
def execSClear (s : State) : Host.Outcome State Fault Refusal :=
  takeIf (s.mainAt .sClear) s <| .next { s with ready := false, mainPc := .sParseBegin }

/-- The request is latched and the parse window opens (R143). -/
def State.openParse (s : State) (p : Packet) : State :=
  { s with reqLatch := Memory.ofPacket p, parseDirty := false, mainPc := .sParseEnd }

/-- S_PARSE_BEGIN (R143): copy the 64 request bytes and open the parse window, or fault on the lowest UNWRITTEN cell. -/
def execSParseBegin (s : State) : Host.Outcome State Fault Refusal :=
  takeIf (s.mainAt .sParseBegin) s <|
    .next <|
      match s.memRead .rxBuf 0 pktSize with
      | .ok p => s.openParse p
      | .error r => s.raiseFault r

/-- All 64 response bytes are written in one step and the parse window closes (R144). -/
def State.closeParse (s : State) : State :=
  { s with
    respBuf := Memory.ofPacket s.response
    draws := s.drawsAfterResponse
    parseDirty := false
    txIndex := 0
    mainPc := .sTx }

/-- S_PARSE_END (R144). -/
def execSParseEnd (s : State) : Host.Outcome State Fault Refusal :=
  takeIf (s.mainAt .sParseEnd) s <| .next s.closeParse

/-- One response byte goes to the transmit FIFO; after the 64th the loop starts over (R145). -/
def State.pushTx (s : State) (b : Byte) : State :=
  { s with txFifo := s.txFifo ++ [b], txIndex := s.txIndex + 1, mainPc := s.mainPcAfterTx }

/-- S_TX (R145): spin while the transmit FIFO is full, else send `resp_buf[tx_index]`. An index past the 64 cells
stops with a fault of the model's own (20_memory R51; assumption log 10). -/
def execSTx (s : State) : Host.Outcome State Fault Refusal :=
  takeIf (s.mainAt .sTx) s <|
    if s.txFull then .next s
    else if pktSize ≤ s.txIndex.toNat then .fault (.noSuchCell .respBuf s.txIndex.toNat)
    else
      match s.memRead .respBuf s.txIndex.toNat 1 with
      | .ok bs => .next (s.pushTx bs[0])
      | .error r => .next (s.raiseFault r)

end Sys2Proof.Machine
end

