-- ==== Sys2Proof/Machine/Timer.lean ====
section
/-! DEFINITION. The time base and the external reset (spec 44_timers_reset): TICK, EXT_RESET. -/

namespace Sys2Proof.Machine

/-- A running watchdog counts down (R160). -/
def State.countWdt (s : State) : State :=
  { s with wdtCount := s.wdtCountAfterTick, draws := s.drawsAfterTick }

/-- The connect deadline counts down and stays at 0 (R160). -/
def State.countDeadline (s : State) : State :=
  { s with dlCount := s.dlCountAfterTick, dlExpired := s.dlExpiredAfterTick }

/-- TICK (R160): the watchdog's reset, or both counts. -/
def execTick (s : State) : Host.Outcome State Fault Refusal :=
  takeIf s.active s <| .next (if s.wdtExpires then s.doReset .watchdog else s.countWdt.countDeadline)

/-- EXT_RESET (R161). -/
def execExtReset (s : State) : Host.Outcome State Fault Refusal :=
  takeIf s.active s <| .next (s.doReset .external)

end Sys2Proof.Machine
end

