-- ==== Sys2Proof/Machine/Dispatch.lean ====
section
/-! DEFINITION. One arm per step of the block, each a direct call of its meaning. -/

namespace Sys2Proof.Machine

def exec (i : Instr) (s : State) : Host.Outcome State Fault Refusal :=
  match i with
  | .rxByte data => Sys2Proof.Machine.execRxByte data s
  | .rxSilence => Sys2Proof.Machine.execRxSilence s
  | .txTake => Sys2Proof.Machine.execTxTake s
  | .tick => Sys2Proof.Machine.execTick s
  | .isrEntry => Sys2Proof.Machine.execIsrEntry s
  | .isrDrain => Sys2Proof.Machine.execIsrDrain s
  | .isrExit => Sys2Proof.Machine.execIsrExit s
  | .cwTestReady => Sys2Proof.Machine.execCwTestReady s
  | .cwTestCursor => Sys2Proof.Machine.execCwTestCursor s
  | .cwRead => Sys2Proof.Machine.execCwRead s
  | .cwDecide => Sys2Proof.Machine.execCwDecide s
  | .cwRejectReady => Sys2Proof.Machine.execCwRejectReady s
  | .cwRejectCursor => Sys2Proof.Machine.execCwRejectCursor s
  | .cwDeadline => Sys2Proof.Machine.execCwDeadline s
  | .ctPollCursor => Sys2Proof.Machine.execCtPollCursor s
  | .ctPollReady => Sys2Proof.Machine.execCtPollReady s
  | .ctClear => Sys2Proof.Machine.execCtClear s
  | .sPoll => Sys2Proof.Machine.execSPoll s
  | .sKick => Sys2Proof.Machine.execSKick s
  | .sClear => Sys2Proof.Machine.execSClear s
  | .sParseBegin => Sys2Proof.Machine.execSParseBegin s
  | .sParseEnd => Sys2Proof.Machine.execSParseEnd s
  | .sTx => Sys2Proof.Machine.execSTx s
  | .extReset => Sys2Proof.Machine.execExtReset s

end Sys2Proof.Machine
end

