-- ==== Sys2Proof/Machine/Step.lean ====
section
/-! DEFINITION. One step of the machine: take the next step word of the trace, decode it, run it (30_encoding R74, R75). -/

namespace Sys2Proof.Machine

/-- One step: the meaning of the next step word, moved past that word. An INVALID word is refused, and so is a step
when no word is left (60_exceptions R172; assumption log 3). -/
def step (s : State) : Host.Outcome State Fault Refusal :=
  match s.nextWord with
  | none => .refused (.endOfTrace s.tracePos)
  | some w =>
    match decode w with
    | .invalid why => .refused (.invalidWord s.tracePos why)
    | .step i => advanceOutcome (exec i s)

/-- `s` with the step word placed as its next one, and, where the word names a step, with the sequencing that step needs
to be next (assumption log 4). -/
def State.withFetchWord (s : State) (nbits w : Nat) : State :=
  let placed : State := { s with trace := BitVec.ofNat 16 (w % 2 ^ nbits) :: s.trace }
  match decodeTableWord nbits w with
  | some i => placed.select i
  | none => placed

end Sys2Proof.Machine
end

