-- ==== Sys2Proof/Machine/Trace.lean ====
section
/-! DEFINITION. Traces: running steps in order (spec 00_scope R18) and the pseudo-steps of 30_encoding R78. -/

namespace Sys2Proof.Machine

/-- The steps in order, stopping at the first that is not taken (00_scope R18: a run). -/
def execAll (is : List Instr) (s : State) : Host.Outcome State Fault Refusal :=
  match is with
  | [] => .next s
  | i :: rest =>
    match exec i s with
    | .next t => execAll rest t
    | .fault f => .fault f
    | .refused r => .refused r

/-- Places a trace: the step words to be taken from this state, the first at position 0 (assumption log 3). -/
def State.load (s : State) (ws : List Word) : State := { s with trace := ws, tracePos := 0 }

/-- The MAIN step named by `main_pc` (10_state R30); none at BOOTED. -/
def mainInstr (m : MainPc) : Option Instr :=
  match m with
  | .cwTestReady => some .cwTestReady
  | .cwTestCursor => some .cwTestCursor
  | .cwRead => some .cwRead
  | .cwDecide => some .cwDecide
  | .cwRejectReady => some .cwRejectReady
  | .cwRejectCursor => some .cwRejectCursor
  | .cwDeadline => some .cwDeadline
  | .ctPollCursor => some .ctPollCursor
  | .ctPollReady => some .ctPollReady
  | .ctClear => some .ctClear
  | .sPoll => some .sPoll
  | .sKick => some .sKick
  | .sClear => some .sClear
  | .sParseBegin => some .sParseBegin
  | .sParseEnd => some .sParseEnd
  | .sTx => some .sTx
  | .booted => none

/-- The pseudo-steps of R78. -/
inductive Pseudo where
  | rxBytes (bs : List Byte)
  | rxFill (v : Byte) (n : Nat)
  | ticks (n : Nat)
  | isrRun
  | mainRun (n : Nat)
  | take (n : Nat)
deriving DecidableEq, Repr

/-- How many bytes an interrupt invocation moves when nothing arrives meanwhile (R104). -/
def isrMoves (s : State) : Nat := min s.rxFifo.length (pktSize - s.cursor.toNat)

/-- `main_run n`: n MAIN steps, each the one in force when it is reached; fewer when the sequencer has booted or a step
is not taken. -/
def expandMainRun (n : Nat) (s : State) : List Instr :=
  match n with
  | 0 => []
  | k + 1 =>
    match mainInstr s.mainPc with
    | none => []
    | some i =>
      match exec i s with
      | .next t => i :: expandMainRun k t
      | .fault _ => [i]
      | .refused _ => [i]

/-- The expansion of a pseudo-step in the state where it stands (R78). -/
def Pseudo.expand (p : Pseudo) (s : State) : List Instr :=
  match p with
  | .rxBytes bs => bs.map Instr.rxByte
  | .rxFill v n => List.replicate n (Instr.rxByte v)
  | .ticks n => List.replicate n Instr.tick
  | .isrRun => Instr.isrEntry :: (List.replicate (isrMoves s + 1) Instr.isrDrain ++ [Instr.isrExit])
  | .mainRun n => expandMainRun n s
  | .take n => List.replicate n Instr.txTake

end Sys2Proof.Machine
end

