-- ==== Sys2Proof/Safety.lean ====
section
/-! DEFINITION. The terms claims are stated in: phases, enabledness, the micro-program, the invariant of every reachable
state, the streams of received and transmitted bytes, and short schedules of steps. -/

namespace Sys2Proof.Machine

/-! ### Derived views (10_state section 7) -/

/-- The phases (R37). -/
inductive Phase where
  | connectWait | connectTail | session | booted
deriving DecidableEq, Repr

/-- The phase of a `main_pc` value (R37). -/
def MainPc.phase (m : MainPc) : Phase :=
  match m with
  | .cwTestReady => .connectWait
  | .cwTestCursor => .connectWait
  | .cwRead => .connectWait
  | .cwDecide => .connectWait
  | .cwRejectReady => .connectWait
  | .cwRejectCursor => .connectWait
  | .cwDeadline => .connectWait
  | .ctPollCursor => .connectTail
  | .ctPollReady => .connectTail
  | .ctClear => .connectTail
  | .sPoll => .session
  | .sKick => .session
  | .sClear => .session
  | .sParseBegin => .session
  | .sParseEnd => .session
  | .sTx => .session
  | .booted => .booted

/-- The phase of a state (R37). -/
def State.phase (s : State) : Phase := s.mainPc.phase

/-- The framer's READY state (R38); its ACCUMULATING state is the other value of `ready`. -/
def State.framerReady (s : State) : Bool := decide (s.isrPc = .idle) && s.ready

/-- The framer's ACCUMULATING state (R38). -/
def State.framerAccumulating (s : State) : Bool := decide (s.isrPc = .idle) && !s.ready

/-- The 5-bit value of `main_pc` (R30). -/
def MainPc.code (m : MainPc) : BitVec 5 :=
  match m with
  | .cwTestReady => 0
  | .cwTestCursor => 1
  | .cwRead => 2
  | .cwDecide => 3
  | .cwRejectReady => 4
  | .cwRejectCursor => 5
  | .cwDeadline => 6
  | .ctPollCursor => 7
  | .ctPollReady => 8
  | .ctClear => 9
  | .sPoll => 10
  | .sKick => 11
  | .sClear => 12
  | .sParseBegin => 13
  | .sParseEnd => 14
  | .sTx => 15
  | .booted => 16

/-- The 2-bit value of `isr_pc` (R29). -/
def IsrPc.code (p : IsrPc) : BitVec 2 :=
  match p with
  | .idle => 0
  | .drain => 1
  | .exit => 2

/-- The 2-bit value of `last_reset_cause` (R40). -/
def ResetCause.code (c : ResetCause) : BitVec 2 :=
  match c with
  | .powerOn => 0
  | .watchdog => 1
  | .external => 2

/-- The fault code, 0 for NONE (R170). -/
def State.faultCode (s : State) : Nat :=
  match s.fault with
  | none => 0
  | some _ => 1

/-! ### Enabledness and the micro-program -/

/-- The global guard (00_scope R15). -/
abbrev State.Running (s : State) : Prop := s.fault = none ∧ s.mainPc ≠ .booted

/-- The main sequencer stands at `m` and may step: the global guard, and the agent guard of MAIN (30_encoding R75). -/
abbrev State.AtMain (s : State) (m : MainPc) : Prop := s.fault = none ∧ s.isrPc = .idle ∧ s.mainPc = m

/-- The global guard, the agent guard and the step's own guard (30_encoding R75). -/
def State.Enabled (s : State) (i : Instr) : Prop :=
  s.Running ∧
    match i with
    | .rxByte _ => True
    | .rxSilence => True
    | .txTake => s.txFifo ≠ []
    | .tick => True
    | .isrEntry => s.isrPc = .idle ∧ (s.rxFifo ≠ [] ∨ s.rxToutPending = true)
    | .isrDrain => s.isrPc = .drain
    | .isrExit => s.isrPc = .exit
    | .extReset => True
    | i => s.isrPc = .idle ∧ microOp i = some s.mainPc

/-- The step resets the block: EXT_RESET, or the TICK on which the watchdog expires (R160, R161). -/
def State.Resets (s : State) (i : Instr) : Prop :=
  i = .extReset ∨ (i = .tick ∧ s.wdtEnabled = true ∧ s.wdtCount = 1)

/-- The successor column of the micro-program (30_encoding R73), read in the state the step starts from. -/
def State.microSuccessor (s : State) : MainPc :=
  match s.mainPc with
  | .cwTestReady => if s.ready = true then .cwRead else .cwTestCursor
  | .cwTestCursor => if 4 ≤ s.cursor.toNat then .cwRead else .cwDeadline
  | .cwRead => .cwDecide
  | .cwDecide =>
    if s.cmdWord = some s.cfg.connectCode then
      if s.cfg.connectTailPolicy = .discard then .ctPollCursor else .sPoll
    else .cwRejectReady
  | .cwRejectReady => .cwRejectCursor
  | .cwRejectCursor => .cwDeadline
  | .cwDeadline => if s.dlExpired = true then .booted else .cwTestReady
  | .ctPollCursor => .ctPollReady
  | .ctPollReady => if s.ready = true then .ctClear else if s.ctZero = true then .sPoll else .ctPollCursor
  | .ctClear => .sPoll
  | .sPoll => if s.ready = true then .sKick else .sPoll
  | .sKick => .sClear
  | .sClear => .sParseBegin
  | .sParseBegin => .sParseEnd
  | .sParseEnd => .sTx
  | .sTx =>
    if s.txFifo.length = s.cfg.txFifoDepth then .sTx
    else if s.txIndex.toNat + 1 < 64 then .sTx else .sPoll
  | .booted => .booted

/-- 30_encoding R74's list of INVALID words, by agent code, op and data. -/
abbrev ReservedFields (agent op data : Nat) : Prop :=
  agent = 0 ∨ 7 ≤ agent ∨ (agent = 1 ∧ 2 ≤ op) ∨ ((agent = 2 ∨ agent = 3 ∨ agent = 6) ∧ 1 ≤ op)
    ∨ (agent = 4 ∧ 3 ≤ op) ∨ (¬(agent = 1 ∧ op = 0) ∧ data ≠ 0)

/-- The word's fields are on that list: bits [15:12], [11:8] and [7:0]. -/
abbrev ReservedWord (w : Word) : Prop := ReservedFields (w.toNat / 4096) (w.toNat / 256 % 16) (w.toNat % 256)

/-! ### The invariant of every reachable state -/

/-- The first `n` cells of a byte space have been written. -/
abbrev Memory.Written (m : Memory) (n : Nat) : Prop := ∀ a, a < n → (Memory.read m a).isSome = true

/-- The three byte spaces are in canonical form. -/
structure State.Canonical (s : State) : Prop where
  rxBuf   : Memory.wf s.rxBuf
  reqLatch : Memory.wf s.reqLatch
  respBuf : Memory.wf s.respBuf

/-- What every reachable state meets: 10_state R41 (1) to (8), with what makes it inductive. -/
structure State.Inv (s : State) : Prop where
  /-- The parameters have legal values (00_scope R8). -/
  params : s.cfg.wellFormed = true
  /-- R41 (1). -/
  cursorLe : s.cursor.toNat ≤ 64
  /-- R41 (1): `cursor = 64` only inside an invocation. -/
  cursorIdle : s.isrPc = .idle → s.cursor.toNat < 64
  /-- R41 (2). -/
  rxFits : s.rxFifo.length ≤ s.cfg.rxFifoDepth
  /-- R41 (2). -/
  txFits : s.txFifo.length ≤ s.cfg.txFifoDepth
  /-- R41 (3). -/
  txIndexLe : s.txIndex.toNat ≤ 64
  /-- R41 (3). -/
  txIndexAtTx : s.mainPc = .sTx → s.txIndex.toNat < 64
  /-- R41 (4). -/
  deadline : s.dlExpired = true ↔ s.dlCount = 0
  /-- R41 (5). -/
  watchdog : s.wdtEnabled = true → s.wdtCount ≠ 0
  /-- R41 (6). -/
  cmdLatched : s.mainPc = .cwDecide → s.cmdWord ≠ none
  /-- R41 (6). -/
  responseWritten : s.mainPc = .sTx → Memory.Written s.respBuf 64
  /-- The parser's request is whole when its result is due (R143). -/
  requestLatched : s.mainPc = .sParseEnd → Memory.Written s.reqLatch 64
  /-- R41 (7). -/
  toutIdle : s.isrPc = .idle → s.isrTout = false
  /-- The cells below the cursor have been written (R53). -/
  accumulated : Memory.Written s.rxBuf s.cursor.toNat
  /-- R41 (8). -/
  readyWhole : s.cfg.timeoutPolicy = .discardPartial → s.ready = true → Memory.Written s.rxBuf 64
  /-- R122: under DISCARD_PARTIAL the command read finds its four bytes. -/
  peekWhole : s.cfg.timeoutPolicy = .discardPartial → s.mainPc = .cwRead → Memory.Written s.rxBuf 4
  /-- R143: under DISCARD_PARTIAL a request taken by S_POLL is whole. -/
  takenWhole : s.cfg.timeoutPolicy = .discardPartial → s.mainPc = .sKick ∨ s.mainPc = .sClear ∨ s.mainPc = .sParseBegin →
    Memory.Written s.rxBuf 64
  /-- R33: `parse_dirty` is set only inside the parse window. -/
  dirtyWindow : s.mainPc ≠ .sParseEnd → s.parseDirty = false
  /-- R39: the watchdog runs as WDT_MODE says. -/
  wdtDisabled : s.cfg.wdtMode = .disabled → s.wdtEnabled = false
  wdtAtReset : s.cfg.wdtMode = .atReset → s.wdtEnabled = true
  wdtAtPhaseB : s.cfg.wdtMode = .atPhaseB →
    (s.wdtEnabled = true ↔ s.phase = .connectTail ∨ s.phase = .session)
  /-- The counts stay within what loads them (R36, R39). -/
  dlBound : s.dlCount.toNat ≤ s.cfg.connectTimeoutTicks.toNat
  wdtBound : s.wdtCount.toNat ≤ s.cfg.wdtTimeoutTicks.toNat
  /-- R37: the tail disposal is entered only under CONNECT_TAIL_POLICY = DISCARD. -/
  tailPolicy : s.phase = .connectTail → s.cfg.connectTailPolicy = .discard
  /-- The byte spaces are in canonical form (20_memory R50). -/
  canonical : s.Canonical

/-- A safe state: no fault has been raised (60_exceptions R170). -/
def State.Safe (s : State) : Prop := s.fault = none

/-! ### Streams of bytes -/

/-- The bytes of the packet under way and those behind it, in arrival order: the cells below the cursor, then the
receive FIFO (20_memory R53, 41_framer R110). -/
def State.received (s : State) : List (Option Byte) :=
  (List.range s.cursor.toNat).map (Memory.read s.rxBuf) ++ s.rxFifo.map some

/-- The response bytes sent so far, in order: those that have left on the line, then those queued (20_memory R54). -/
def State.sent (s : State) : List Byte := s.txOut ++ s.txFifo

/-! ### Elements only observed -/

/-- The state with the elements forgotten that no step reads (10_state R21: "observation only"). -/
def State.forgetObserved (s : State) : State :=
  { s with rxOverflow := false, txOut := [], lastResetCause := .powerOn }

/-- The state with the connect deadline forgotten (10_state R36). -/
def State.forgetDeadline (s : State) : State := { s with dlCount := 0, dlExpired := false }

/-- An outcome with its next state mapped. -/
def mapNext (f : State → State) (o : Host.Outcome State Fault Refusal) : Host.Outcome State Fault Refusal :=
  match o with
  | .next t => .next (f t)
  | .fault e => .fault e
  | .refused r => .refused r

/-! ### Short schedules -/

/-- Each byte arrives and is drained by an invocation of its own (41_framer R100 to R105). -/
def deliverEach (bs : List Byte) : List Instr :=
  bs.flatMap fun b => [.rxByte b, .isrEntry, .isrDrain, .isrDrain, .isrExit]

/-- A silence and the invocation that carries it, with nothing left to drain (41_framer R101 to R106). -/
def silenceRun : List Instr := [.rxSilence, .isrEntry, .isrDrain, .isrExit]

/-- The bytes that arrive on the line in a schedule, in order (41_framer R100). -/
def arrivals (is : List Instr) : List Byte :=
  match is with
  | [] => []
  | .rxByte b :: rest => b :: arrivals rest
  | _ :: rest => arrivals rest

/-- The step is none that 41_framer R107 shuts out: no silence, no reject of the cursor, no reset, no byte lost to a
full FIFO. -/
def State.undisturbed (s : State) (i : Instr) : Bool :=
  match i with
  | .rxByte _ => s.rxHasRoom
  | .rxSilence => false
  | .cwRejectCursor => false
  | .tick => !s.wdtExpires
  | .extReset => false
  | _ => true

/-- The run of a schedule in which every step is taken and none is shut out; none otherwise. -/
def runUndisturbed (is : List Instr) (s : State) : Option State :=
  match is with
  | [] => some s
  | i :: rest =>
    if s.undisturbed i then
      match exec i s with
      | .next t => runUndisturbed rest t
      | .fault _ => none
      | .refused _ => none
    else none

/-- `n` response bytes, each taken by the master as soon as it is queued (43_session R145, R146). -/
def transmitEach (n : Nat) : List Instr := (List.replicate n [Instr.sTx, Instr.txTake]).flatten

end Sys2Proof.Machine
end

