-- ==== Sys2Proof/Certificates/Slice0/Obligations.lean ====
section
/-! DEFINITION. The statements for the provers, from the numbered rules of spec/. A conclusion `exec i s = .next t` says
that the step completes; a next state written as an update of `s` says that everything not named is unchanged. -/

open Sys2Proof Sys2Proof.Machine

/-! ### Decoding and stepping -/

/-- 30_encoding R70, R72: step words written out from the map, and words of every reserved class of R74 (the names of
the classes are the model's, assumption log 16). -/
def Obligations.WrittenOutWordsDecode : Prop :=
  decode 0x10FF#16 = .step (.rxByte 0xFF#8) ∧ decode 0x1100#16 = .step .rxSilence ∧
  decode 0x2000#16 = .step .txTake ∧ decode 0x3000#16 = .step .tick ∧ decode 0x4200#16 = .step .isrExit ∧
  decode 0x5600#16 = .step .cwDeadline ∧ decode 0x5900#16 = .step .ctClear ∧ decode 0x5A00#16 = .step .sPoll ∧
  decode 0x6000#16 = .step .extReset ∧
  decode 0x1101#16 = .invalid .nonzeroData ∧ decode 0x1200#16 = .invalid .reservedOp ∧
  decode 0x0000#16 = .invalid .reservedAgent ∧ decode 0x7000#16 = .invalid .reservedAgent

/-- Every step, with every byte RX_BYTE can carry, is read back from its word (30_encoding R72). -/
def Obligations.DecodeEncodeRoundTrip : Prop :=
  ∀ i : Instr, decode (encode i) = .step i

/-- 30_encoding R74, 60_exceptions R172: the words of R74's list are INVALID and a trace that meets one is refused there,
with its position; every other word is the word of exactly the step it decodes to. The trace and the position are the
model's fields (assumption log 3), the class a refusal carries is the model's (assumption log 16). -/
def Obligations.ReservedWordsAreRefusedOthersDecode : Prop :=
  ∀ w : Word,
    (ReservedWord w → (∃ why, decode w = .invalid why ∧
      ∀ (s : State) (rest : List Word), s.trace = w :: rest → step s = .refused (.invalidWord s.tracePos why))) ∧
    (¬ ReservedWord w → ∃ i, decode w = .step i ∧ encode i = w)

/-- A step of the machine is the meaning of the step word at the head of the trace, moved past that word; a fault or a
refusal of the meaning is the step's (the trace is the model's own field, assumption log 3). -/
def Obligations.StepRunsTheDecodedWord : Prop :=
  ∀ (s : State) (w : Word) (rest : List Word) (i : Instr), s.trace = w :: rest → decode w = .step i →
    (∀ t, exec i s = .next t → step s = .next { t with trace := rest, tracePos := s.tracePos + 1 }) ∧
    (∀ f, exec i s = .fault f → step s = .fault f) ∧
    (∀ r, exec i s = .refused r → step s = .refused r)

/-- With no step word left there is no step to take (the model's own stop, assumption log 3). -/
def Obligations.EmptyTraceEndsTheRun : Prop :=
  ∀ s : State, s.trace = [] → step s = .refused (.endOfTrace s.tracePos)

/-- Every step word, placed right after power-on, is the whole trace, and the very next step takes the step it encodes
and moves past it (the model's own placing, assumption log 4), whatever the parameters. -/
def Obligations.PlacedWordRunsAfterPowerOn : Prop :=
  ∀ (c : Config) (i : Instr) (placed : State),
    placed = (State.powerOn c).withFetchWord 16 (encode i).toNat →
    placed.trace = [encode i] ∧ placed.tracePos = 0 ∧
    ∃ u, exec i placed = .next u ∧ step placed = .next u.advance ∧ u.advance.trace = [] ∧ u.advance.tracePos = 1

/-! ### Enabledness -/

/-- 30_encoding R75: a decoded step that is not enabled is refused NOT_ENABLED, and only such a step is. -/
def Obligations.RefusedExactlyWhenNotEnabled : Prop :=
  ∀ (i : Instr) (s : State), ¬ s.Enabled i ↔ exec i s = .refused (.notEnabled s.tracePos)

/-- An enabled step is taken. S_TX is asked for an index of one of the 64 cells, which 10_state R41 (3) gives in every
reachable state. -/
def Obligations.EnabledStepsAreTaken : Prop :=
  ∀ (i : Instr) (s : State), s.Enabled i → (i = .sTx → s.txIndex.toNat < 64) → ∃ t, exec i s = .next t

/-- 00_scope R15: a faulted state and BOOTED have no steps. -/
def Obligations.FaultedAndBootedHaveNoSteps : Prop :=
  ∀ (i : Instr) (s : State), s.fault ≠ none ∨ s.mainPc = .booted → exec i s = .refused (.notEnabled s.tracePos)

/-- 60_exceptions R174, R175: while an invocation runs no MAIN step is taken, and its steps keep `main_pc`; the main
sequencer resumes where it was. -/
def Obligations.InterruptSuspendsTheMainSequencer : Prop :=
  ∀ (i : Instr) (s t : State),
    (i.agent = .main → s.isrPc ≠ .idle → exec i s = .refused (.notEnabled s.tracePos)) ∧
    (i.agent = .isr → exec i s = .next t → t.mainPc = s.mainPc ∧ t.fault = s.fault) ∧
    (exec .isrExit s = .next t → t.isrPc = .idle)

/-! ### The framer (41_framer) -/

/-- 41_framer R100: its words, and its effect at any time in an active phase. -/
def Obligations.RxByteQueuesOrIsLost : Prop :=
  ∀ (b : Byte) (s : State), decode (0x10#8 ++ b) = .step (.rxByte b) ∧ (s.Running →
    exec (.rxByte b) s = .next (if s.rxFifo.length < s.cfg.rxFifoDepth then { s with rxFifo := s.rxFifo ++ [b] }
      else { s with rxOverflow := true }))

/-- 41_framer R101: its word, and its effect at any time in an active phase. -/
def Obligations.RxSilenceSetsThePendingTimeout : Prop :=
  decode 0x1100#16 = .step .rxSilence ∧
  ∀ s : State, s.Running → exec .rxSilence s = .next { s with rxToutPending := true }

/-- 41_framer R103, with the request of R102: taken while the context is idle and a byte or a timeout asks for it, and
refused otherwise. -/
def Obligations.IsrEntryLatchesTheTimeout : Prop :=
  decode 0x4000#16 = .step .isrEntry ∧
  ∀ s : State, s.Running →
    (s.isrPc = .idle → s.rxFifo ≠ [] ∨ s.rxToutPending = true →
      exec .isrEntry s = .next { s with isrTout := s.rxToutPending, rxToutPending := false, isrPc := .drain }) ∧
    (s.isrPc ≠ .idle ∨ (s.rxFifo = [] ∧ s.rxToutPending = false) →
      exec .isrEntry s = .refused (.notEnabled s.tracePos))

/-- 41_framer R104: the byte goes to `rx_buf[cursor]` and to no other cell; with no byte, or at capacity, the loop ends. -/
def Obligations.IsrDrainMovesOneByteOrEnds : Prop :=
  decode 0x4100#16 = .step .isrDrain ∧
  ∀ s : State, s.Running →
    (s.isrPc ≠ .drain → exec .isrDrain s = .refused (.notEnabled s.tracePos)) ∧
    (s.isrPc = .drain → ∀ (b : Byte) (rest : List Byte), s.rxFifo = b :: rest → s.cursor.toNat < 64 →
      ∃ t, exec .isrDrain s = .next t ∧
        Memory.read t.rxBuf s.cursor.toNat = some b ∧
        (∀ a, a ≠ s.cursor.toNat → Memory.read t.rxBuf a = Memory.read s.rxBuf a) ∧
        t.cursor.toNat = s.cursor.toNat + 1 ∧
        t = { s with
          rxBuf := t.rxBuf
          rxFifo := rest
          cursor := t.cursor
          parseDirty := if s.mainPc = .sParseEnd then true else s.parseDirty }) ∧
    (s.isrPc = .drain → s.rxFifo = [] ∨ 64 ≤ s.cursor.toNat → exec .isrDrain s = .next { s with isrPc := .exit })

/-- 41_framer R105, R106: the full-packet path, the flush under each policy, and neither. -/
def Obligations.IsrExitDeliversFlushesOrKeeps : Prop :=
  decode 0x4200#16 = .step .isrExit ∧
  ∀ s : State, s.Running →
    (s.isrPc ≠ .exit → exec .isrExit s = .refused (.notEnabled s.tracePos)) ∧
    (s.isrPc = .exit → exec .isrExit s = .next (
      if s.cursor.toNat = 64 then { s with ready := true, cursor := 0, isrTout := false, isrPc := .idle }
      else if s.isrTout = true ∧ 0 < s.cursor.toNat then
        if s.cfg.timeoutPolicy = .discardPartial then { s with cursor := 0, isrTout := false, isrPc := .idle }
        else { s with ready := true, cursor := 0, isrTout := false, isrPc := .idle }
      else { s with isrTout := false, isrPc := .idle }))

/-! ### The connect wait and the tail disposal (42_connect) -/

/-- 42_connect R120, R121: the two connect tests. -/
def Obligations.ConnectTestsReadTheFlagThenTheCursor : Prop :=
  (decode 0x5000#16 = .step .cwTestReady ∧ decode 0x5100#16 = .step .cwTestCursor) ∧
  (∀ s : State, s.AtMain .cwTestReady →
    exec .cwTestReady s = .next { s with mainPc := if s.ready = true then .cwRead else .cwTestCursor }) ∧
  (∀ s : State, s.AtMain .cwTestCursor →
    exec .cwTestCursor s = .next { s with mainPc := if 4 ≤ s.cursor.toNat then .cwRead else .cwDeadline })

/-- 42_connect R122, 20_memory R52: the little-endian code of cells 0 to 3, or the fault at the lowest UNWRITTEN one of
them; memory is not written. -/
def Obligations.CwReadLatchesTheLittleEndianCode : Prop :=
  decode 0x5200#16 = .step .cwRead ∧
  ∀ s : State, s.AtMain .cwRead →
    (∀ b0 b1 b2 b3 : Byte, Memory.read s.rxBuf 0 = some b0 → Memory.read s.rxBuf 1 = some b1 →
      Memory.read s.rxBuf 2 = some b2 → Memory.read s.rxBuf 3 = some b3 →
      ∃ v : Word32, exec .cwRead s = .next { s with cmdWord := some v, mainPc := .cwDecide } ∧
        v = b3 ++ b2 ++ b1 ++ b0 ∧
        v.toNat = b0.toNat + b1.toNat * 2 ^ 8 + b2.toNat * 2 ^ 16 + b3.toNat * 2 ^ 24) ∧
    (∀ k, k < 4 → Memory.read s.rxBuf k = none → Memory.Written s.rxBuf k →
      exec .cwRead s = .next { s with fault := some { code := .unwrittenRead, space := .rxBuf, addr := k } })

/-- 42_connect R123: the whole latched code is compared; accept starts the watchdog under AT_PHASE_B and goes where the
tail policy says, reject goes to CW_REJECT_READY. -/
def Obligations.CwDecideAcceptsConnectAlone : Prop :=
  decode 0x5300#16 = .step .cwDecide ∧
  ∀ (s : State) (v : Word32), s.AtMain .cwDecide → s.cmdWord = some v →
    (v = s.cfg.connectCode →
      exec .cwDecide s = .next { s with
        wdtEnabled := if s.cfg.wdtMode = .atPhaseB then true else s.wdtEnabled
        wdtCount := if s.cfg.wdtMode = .atPhaseB then s.cfg.wdtTimeoutTicks else s.wdtCount
        mainPc := if s.cfg.connectTailPolicy = .discard then .ctPollCursor else .sPoll }) ∧
    (v ≠ s.cfg.connectCode → exec .cwDecide s = .next { s with mainPc := .cwRejectReady })

/-- 42_connect R125, R126: the reject clears the flag, then resets the cursor. -/
def Obligations.RejectReArmsTheFramer : Prop :=
  (decode 0x5400#16 = .step .cwRejectReady ∧ decode 0x5500#16 = .step .cwRejectCursor) ∧
  (∀ s : State, s.AtMain .cwRejectReady →
    exec .cwRejectReady s = .next { s with ready := false, mainPc := .cwRejectCursor }) ∧
  (∀ s : State, s.AtMain .cwRejectCursor →
    exec .cwRejectCursor s = .next { s with cursor := 0, mainPc := .cwDeadline })

/-- 42_connect R127: an expired deadline boots, else the next iteration starts. -/
def Obligations.CwDeadlineBootsOrLoops : Prop :=
  decode 0x5600#16 = .step .cwDeadline ∧
  ∀ s : State, s.AtMain .cwDeadline →
    exec .cwDeadline s = .next { s with mainPc := if s.dlExpired = true then .booted else .cwTestReady }

/-- 42_connect R128, R129, R130: the three steps of the tail disposal. -/
def Obligations.TailDisposalPollsThenClears : Prop :=
  (decode 0x5700#16 = .step .ctPollCursor ∧ decode 0x5800#16 = .step .ctPollReady ∧
    decode 0x5900#16 = .step .ctClear) ∧
  (∀ s : State, s.AtMain .ctPollCursor →
    exec .ctPollCursor s = .next { s with ctZero := decide (s.cursor.toNat = 0), mainPc := .ctPollReady }) ∧
  (∀ s : State, s.AtMain .ctPollReady →
    exec .ctPollReady s = .next { s with
      mainPc := if s.ready = true then .ctClear else if s.ctZero = true then .sPoll else .ctPollCursor }) ∧
  (∀ s : State, s.AtMain .ctClear → exec .ctClear s = .next { s with ready := false, mainPc := .sPoll })

/-! ### The request/response loop (43_session) -/

/-- 43_session R140, R141, R142: poll the flag, kick a running watchdog, clear the flag. -/
def Obligations.SessionPollsKicksAndClears : Prop :=
  (decode 0x5A00#16 = .step .sPoll ∧ decode 0x5B00#16 = .step .sKick ∧ decode 0x5C00#16 = .step .sClear) ∧
  (∀ s : State, s.AtMain .sPoll → exec .sPoll s = .next (if s.ready = true then { s with mainPc := .sKick } else s)) ∧
  (∀ s : State, s.AtMain .sKick →
    exec .sKick s = .next { s with
      wdtCount := if s.wdtEnabled = true then s.cfg.wdtTimeoutTicks else s.wdtCount
      mainPc := .sClear }) ∧
  (∀ s : State, s.AtMain .sClear → exec .sClear s = .next { s with ready := false, mainPc := .sParseBegin })

/-- 43_session R143: all 64 cells are copied into the latch and the parse window opens, or the fault at the lowest
UNWRITTEN cell. -/
def Obligations.SParseBeginCopiesTheBuffer : Prop :=
  decode 0x5D00#16 = .step .sParseBegin ∧
  ∀ s : State, s.AtMain .sParseBegin →
    (Memory.Written s.rxBuf 64 →
      ∃ t, exec .sParseBegin s = .next t ∧
        (∀ a, a < 64 → Memory.read t.reqLatch a = Memory.read s.rxBuf a) ∧
        t = { s with reqLatch := t.reqLatch, parseDirty := false, mainPc := .sParseEnd }) ∧
    (∀ k, k < 64 → Memory.read s.rxBuf k = none → Memory.Written s.rxBuf k →
      exec .sParseBegin s = .next { s with fault := some { code := .unwrittenRead, space := .rxBuf, addr := k } })

/-- 43_session R144: a request not touched in the parse window gets PARSE_FN's 64 bytes; a torn one gets 64 free bytes,
each a draw of its own (the form of draw() and its counter are the model's, assumption log 5). All 64 cells are written in the one step, and the parse window closes. -/
def Obligations.SParseEndWritesTheWholeResponse : Prop :=
  decode 0x5E00#16 = .step .sParseEnd ∧
  ∀ s : State, s.AtMain .sParseEnd →
    (∀ p : Packet, (∀ (a : Nat) (h : a < 64), Memory.read s.reqLatch a = some p[a]) → s.parseDirty = false →
      ∃ t, exec .sParseEnd s = .next t ∧
        (∀ (a : Nat) (h : a < 64), Memory.read t.respBuf a = some (Config.parseFn p)[a]) ∧
        t = { s with respBuf := t.respBuf, parseDirty := false, txIndex := 0, mainPc := .sTx }) ∧
    (s.parseDirty = true →
      ∃ t, exec .sParseEnd s = .next t ∧
        (∀ a, a < 64 → Memory.read t.respBuf a = some (Config.drawByte (s.draws + a))) ∧
        t = { s with
          respBuf := t.respBuf
          draws := s.draws + 64
          parseDirty := false
          txIndex := 0
          mainPc := .sTx })

/-- 43_session R145: a spin while the transmit FIFO is full; else the byte at `tx_index` is queued and the index
advances, back to S_POLL after the 64th; an UNWRITTEN byte is the fault of 60_exceptions R170. -/
def Obligations.STxSendsOneByteOrSpins : Prop :=
  decode 0x5F00#16 = .step .sTx ∧
  ∀ s : State, s.AtMain .sTx →
    (s.txFifo.length = s.cfg.txFifoDepth → exec .sTx s = .next s) ∧
    (s.txFifo.length ≠ s.cfg.txFifoDepth → s.txIndex.toNat < 64 →
      (∀ b : Byte, Memory.read s.respBuf s.txIndex.toNat = some b →
        ∃ t, exec .sTx s = .next t ∧ t.txIndex.toNat = s.txIndex.toNat + 1 ∧
          t = { s with
            txFifo := s.txFifo ++ [b]
            txIndex := t.txIndex
            mainPc := if t.txIndex.toNat = 64 then .sPoll else .sTx }) ∧
      (Memory.read s.respBuf s.txIndex.toNat = none →
        exec .sTx s = .next { s with
          fault := some { code := .unwrittenRead, space := .respBuf, addr := s.txIndex.toNat } }))

/-- 43_session R146: the oldest queued byte leaves on the line; with nothing queued the step is refused. -/
def Obligations.TxTakeSendsTheOldestByte : Prop :=
  decode 0x2000#16 = .step .txTake ∧
  ∀ s : State, s.Running →
    (∀ (b : Byte) (rest : List Byte), s.txFifo = b :: rest →
      exec .txTake s = .next { s with txFifo := rest, txOut := s.txOut ++ [b] }) ∧
    (s.txFifo = [] → exec .txTake s = .refused (.notEnabled s.tracePos))

/-! ### Timers and reset (44_timers_reset, 70_reset_and_hazards) -/

/-- 44_timers_reset R160: both counts go down, each only while it runs, and the tick that takes the deadline to 0 sets
`dl_expired`; the tick that finds a running watchdog at 1 resets the block instead. The first case asks a running
watchdog for a count above 1 (10_state R41 (5)). -/
def Obligations.TickCountsOrResets : Prop :=
  decode 0x3000#16 = .step .tick ∧
  ∀ s : State, s.Running →
    ((s.wdtEnabled = true → 1 < s.wdtCount.toNat) →
      ∃ t, exec .tick s = .next t ∧
        t.wdtCount.toNat = s.wdtCount.toNat - (if s.wdtEnabled = true then 1 else 0) ∧
        t.dlCount.toNat = s.dlCount.toNat - 1 ∧
        (t.dlExpired = true ↔ s.dlExpired = true ∨ s.dlCount.toNat = 1) ∧
        t = { s with wdtCount := t.wdtCount, dlCount := t.dlCount, dlExpired := t.dlExpired }) ∧
    (s.wdtEnabled = true → s.wdtCount.toNat = 1 → exec .tick s = .next (s.doReset .watchdog))

/-- 44_timers_reset R161: an external reset is `Reset(EXTERNAL)`, at any point. -/
def Obligations.ExtResetResetsAtAnyPoint : Prop :=
  decode 0x6000#16 = .step .extReset ∧
  ∀ s : State, s.Running → exec .extReset s = .next (s.doReset .external)

/-- 70_reset_and_hazards R190: what Reset loads, element by element, for each cause. The last four fields are the
model's own and stay (assumption logs 2, 3, 5). -/
def Obligations.ResetLoadsEveryElement : Prop :=
  ∀ (s : State) (cause : ResetCause),
    s.doReset cause =
      { rxBuf := []
        cursor := 0
        ready := false
        rxFifo := []
        rxToutPending := false
        rxOverflow := false
        isrPc := .idle
        isrTout := false
        mainPc := .cwTestReady
        cmdWord := none
        ctZero := false
        reqLatch := []
        parseDirty := false
        respBuf := []
        txIndex := 0
        txFifo := []
        txOut := if cause = .powerOn then [] else s.txOut
        dlCount := s.cfg.connectTimeoutTicks
        dlExpired := false
        wdtEnabled := decide (s.cfg.wdtMode = .atReset)
        wdtCount := s.cfg.wdtTimeoutTicks
        fault := none
        lastResetCause := cause
        cfg := s.cfg
        trace := s.trace
        tracePos := s.tracePos
        draws := s.draws } ∧
    (∀ a, Memory.read (s.doReset cause).rxBuf a = none ∧ Memory.read (s.doReset cause).reqLatch a = none ∧
      Memory.read (s.doReset cause).respBuf a = none)

/-- 70_reset_and_hazards R191: a run starts from `Reset(POWER_ON)` with `tx_out` empty. The model's own fields start
empty, and State.reset is that state under the example parameters, the model's choice (assumption logs 1, 3, 5). -/
def Obligations.PowerOnIsResetOfAnyState : Prop :=
  (∀ (c : Config) (s : State), s.cfg = c →
    State.powerOn c = { s.doReset .powerOn with trace := [], tracePos := 0, draws := 0 }) ∧
  State.reset = State.powerOn Config.example95

/-- What the model does where no rule gives a value and no reachable state comes (assumption logs 7, 8, 9, 10): an
UNWRITTEN code is rejected; an UNWRITTEN request gives 64 free bytes, each a draw of its own; a running watchdog at 0
gets a free count, and the deadline is counted as ever; a cell index past the space stops. Nothing else changes. -/
def Obligations.UnreachableCornersAsLogged : Prop :=
  (∀ s : State, s.AtMain .cwDecide → s.cmdWord = none → exec .cwDecide s = .next { s with mainPc := .cwRejectReady }) ∧
  (∀ (s : State) (k : Nat), s.AtMain .sParseEnd → k < 64 → Memory.read s.reqLatch k = none →
    ∃ t, exec .sParseEnd s = .next t ∧
      (∀ a, a < 64 → Memory.read t.respBuf a = some (Config.drawByte (s.draws + a))) ∧
      t = { s with respBuf := t.respBuf, draws := s.draws + 64, parseDirty := false, txIndex := 0, mainPc := .sTx }) ∧
  (∀ s : State, s.Running → s.wdtEnabled = true → s.wdtCount = 0 →
    ∃ t, exec .tick s = .next t ∧
      t.dlCount.toNat = s.dlCount.toNat - 1 ∧
      (t.dlExpired = true ↔ s.dlExpired = true ∨ s.dlCount.toNat = 1) ∧
      t = { s with
        wdtCount := Config.drawCount s.draws
        draws := s.draws + 1
        dlCount := t.dlCount
        dlExpired := t.dlExpired }) ∧
  (∀ s : State, s.AtMain .sTx → s.txFifo.length ≠ s.cfg.txFifoDepth → 64 ≤ s.txIndex.toNat →
    exec .sTx s = .fault (.noSuchCell .respBuf s.txIndex.toNat))

/-! ### Who writes what -/

/-- 10_state R22, 20_memory R58: short of a reset, only ISR_DRAIN writes a cell of the Receive Buffer, one cell, at the
cursor, with the oldest byte of the FIFO; no step erases one. -/
def Obligations.OnlyIsrDrainWritesTheReceiveBuffer : Prop :=
  ∀ (i : Instr) (s t : State), exec i s = .next t → ¬ s.Resets i → ∀ a,
    Memory.read t.rxBuf a = Memory.read s.rxBuf a ∨
      (i = .isrDrain ∧ a = s.cursor.toNat ∧ a < 64 ∧ s.rxFifo ≠ [] ∧ Memory.read t.rxBuf a = s.rxFifo.head?)

/-- Request and response cells: only S_PARSE_BEGIN writes the latch and only S_PARSE_END the Response Buffer, short of a
reset (10_state R33, R34). -/
def Obligations.OnlyTheParseStepsWriteLatchAndResponse : Prop :=
  ∀ (i : Instr) (s t : State), exec i s = .next t → ¬ s.Resets i →
    (i ≠ .sParseBegin → ∀ a, Memory.read t.reqLatch a = Memory.read s.reqLatch a) ∧
    (i ≠ .sParseEnd → ∀ a, Memory.read t.respBuf a = Memory.read s.respBuf a)

/-- 10_state R23: short of a reset the cursor goes up by one at ISR_DRAIN, or back to 0 at ISR_EXIT and
CW_REJECT_CURSOR. -/
def Obligations.CursorMovesOnlyByDrainExitAndReject : Prop :=
  ∀ (i : Instr) (s t : State), exec i s = .next t → ¬ s.Resets i → t.cursor ≠ s.cursor →
    (i = .isrDrain ∧ s.cursor.toNat < 64 ∧ t.cursor.toNat = s.cursor.toNat + 1) ∨
      ((i = .isrExit ∨ i = .cwRejectCursor) ∧ t.cursor.toNat = 0)

/-- 10_state R24: only ISR_EXIT sets `ready`, on the full-packet path or under FLUSH_PARTIAL, and only CW_REJECT_READY,
CT_CLEAR and S_CLEAR clear it, short of a reset. -/
def Obligations.ReadySetByIsrExitClearedByMain : Prop :=
  ∀ (i : Instr) (s t : State), exec i s = .next t → ¬ s.Resets i →
    (s.ready = false → t.ready = true →
      i = .isrExit ∧ (s.cursor.toNat = 64 ∨ (s.cfg.timeoutPolicy = .flushPartial ∧ s.isrTout = true))) ∧
    (s.ready = true → t.ready = false → i = .cwRejectReady ∨ i = .ctClear ∨ i = .sClear)

/-- 10_state R26: the receive FIFO takes RX_BYTE's byte at the back, within its depth, and gives ISR_DRAIN the front. -/
def Obligations.ReceiveFifoPushesAndPopsInOrder : Prop :=
  ∀ (i : Instr) (s t : State), exec i s = .next t → ¬ s.Resets i →
    t.rxFifo = s.rxFifo ∨
      (∃ b, i = .rxByte b ∧ s.rxFifo.length < s.cfg.rxFifoDepth ∧ t.rxFifo = s.rxFifo ++ [b]) ∨
      (i = .isrDrain ∧ s.rxFifo ≠ [] ∧ t.rxFifo = s.rxFifo.tail)

/-- 10_state R36: short of a reset only TICK counts the deadline, by one, and `dl_expired` never clears. -/
def Obligations.DeadlineIsCountedByTickAlone : Prop :=
  ∀ (i : Instr) (s t : State), exec i s = .next t → ¬ s.Resets i →
    (i ≠ .tick → t.dlCount = s.dlCount ∧ t.dlExpired = s.dlExpired) ∧
    t.dlCount.toNat = (if i = .tick then s.dlCount.toNat - 1 else s.dlCount.toNat) ∧
    (s.dlExpired = true → t.dlExpired = true)

/-- 10_state R39: short of a reset, only CW_DECIDE's accept under AT_PHASE_B starts the watchdog, nothing stops it, and
its count changes only by that accept, by S_KICK and by TICK, the first two loading WDT_TIMEOUT_TICKS. -/
def Obligations.WatchdogStartsAtAcceptAndIsKicked : Prop :=
  ∀ (i : Instr) (s t : State), exec i s = .next t → ¬ s.Resets i →
    (s.wdtEnabled = true → t.wdtEnabled = true) ∧
    (s.wdtEnabled = false → t.wdtEnabled = true →
      i = .cwDecide ∧ s.cfg.wdtMode = .atPhaseB ∧ s.cmdWord = some s.cfg.connectCode) ∧
    (t.wdtCount ≠ s.wdtCount →
      (i = .cwDecide ∧ s.cfg.wdtMode = .atPhaseB ∧ s.cmdWord = some s.cfg.connectCode ∧
        t.wdtCount = s.cfg.wdtTimeoutTicks) ∨
      (i = .sKick ∧ s.wdtEnabled = true ∧ t.wdtCount = s.cfg.wdtTimeoutTicks) ∨
      (i = .tick ∧ s.wdtEnabled = true))

/-- No step changes the parameters, the trace or the position, and draws are only ever made, by S_PARSE_END and TICK
(the model's own fields, assumption logs 2, 3, 5). -/
def Obligations.NoStepChangesTheParametersOrTheTrace : Prop :=
  ∀ (i : Instr) (s t : State), exec i s = .next t →
    t.cfg = s.cfg ∧ t.trace = s.trace ∧ t.tracePos = s.tracePos ∧ s.draws ≤ t.draws ∧
      (i ≠ .sParseEnd → i ≠ .tick → t.draws = s.draws)

/-! ### The micro-program and the phases -/

/-- 30_encoding R73: where each step leaves `main_pc` and `isr_pc`. A MAIN step moves along the micro-program, except
that a step that raises a fault stays; every other step keeps `main_pc`, short of a reset. -/
def Obligations.StepsFollowTheMicroProgram : Prop :=
  ∀ (i : Instr) (s t : State), exec i s = .next t → ¬ s.Resets i →
    (i.agent = .main → t.mainPc = if t.fault = none then s.microSuccessor else s.mainPc) ∧
    (i.agent ≠ .main → t.mainPc = s.mainPc) ∧
    t.isrPc = (match i with
      | .isrEntry => .drain
      | .isrDrain => if s.rxFifo ≠ [] ∧ s.cursor.toNat < 64 then .drain else .exit
      | .isrExit => .idle
      | _ => s.isrPc)

/-- The phases are left only as the spec says (10_state R37, 42_connect R133, 43_session R149): Phase A by the accept
of a CONNECT code or by the boot hand-off, the tail disposal into the session, the session never, but for a reset. -/
def Obligations.PhasesChangeOnlyByAcceptBootAndReset : Prop :=
  ∀ (i : Instr) (s t : State), exec i s = .next t → ¬ s.Resets i → t.phase ≠ s.phase →
    (s.phase = .connectWait ∧ i = .cwDecide ∧ s.cmdWord = some s.cfg.connectCode ∧
      t.phase = (if s.cfg.connectTailPolicy = .discard then .connectTail else .session)) ∨
    (s.phase = .connectWait ∧ i = .cwDeadline ∧ s.dlExpired = true ∧ t.phase = .booted) ∨
    (s.phase = .connectTail ∧ t.phase = .session)

/-- 60_exceptions R170: a fault comes only from CW_READ, S_PARSE_BEGIN and S_TX, names the space that step reads and its
lowest UNWRITTEN index, and writes nothing else. -/
def Obligations.FaultsNameTheLowestUnwrittenCell : Prop :=
  ∀ (i : Instr) (s t : State) (r : FaultRecord), exec i s = .next t → t.fault = some r →
    t = { s with fault := some r } ∧ r.code = .unwrittenRead ∧
    ((i = .cwRead ∧ r.space = .rxBuf ∧ r.addr < 4 ∧ Memory.read s.rxBuf r.addr = none ∧ Memory.Written s.rxBuf r.addr) ∨
     (i = .sParseBegin ∧ r.space = .rxBuf ∧ r.addr < 64 ∧ Memory.read s.rxBuf r.addr = none ∧
       Memory.Written s.rxBuf r.addr) ∨
     (i = .sTx ∧ r.space = .respBuf ∧ r.addr = s.txIndex.toNat ∧ r.addr < 64 ∧ Memory.read s.respBuf r.addr = none))

/-! ### Invariants -/

/-- The invariant holds at power-on under any legal parameters (10_state R41). -/
def Obligations.InvariantHoldsAtPowerOn : Prop :=
  ∀ c : Config, c.wellFormed = true → (State.powerOn c).Inv

/-- Every step keeps the invariant: 10_state R41 (1) to (8), from any state that meets it. -/
def Obligations.EveryStepKeepsTheInvariant : Prop :=
  ∀ s t : State, s.Inv → step s = .next t → t.Inv

/-- Every step keeps the three byte spaces in canonical form, from any state in which they are (the form is the model's,
assumption log 12). -/
def Obligations.EveryStepKeepsMemoryCanonical : Prop :=
  ∀ s t : State, s.Canonical → step s = .next t → t.Canonical

/-- 60_exceptions R170: under TIMEOUT_POLICY = DISCARD_PARTIAL no step from a state that meets the invariant raises a
fault, and under no policy does a step stop with a fault of the model's own. -/
def Obligations.NoFaultUnderDiscardPartial : Prop :=
  (∀ s t : State, s.Inv → s.cfg.timeoutPolicy = .discardPartial → s.Safe → step s = .next t → t.Safe) ∧
  (∀ (s : State) (f : Fault), s.Inv → step s ≠ .fault f)

/-! ### Streams -/

/-- 41_framer R110, 20_memory R53: the bytes received and not yet delivered stay in arrival order. A byte with room is
appended; ISR_DRAIN only moves one from the FIFO to the buffer; a delivered packet takes its 64 bytes, a flush and a
reject take the bytes below the cursor, and no other step but a reset takes any. -/
def Obligations.ReceivedBytesKeepArrivalOrder : Prop :=
  ∀ (i : Instr) (s t : State), exec i s = .next t → ¬ s.Resets i →
    t.received = match i with
      | .rxByte b => if s.rxFifo.length < s.cfg.rxFifoDepth then s.received ++ [some b] else s.received
      | .isrExit =>
        if s.cursor.toNat = 64 ∨ (s.isrTout = true ∧ 0 < s.cursor.toNat) then s.received.drop s.cursor.toNat
        else s.received
      | .cwRejectCursor => s.received.drop s.cursor.toNat
      | _ => s.received

/-- 20_memory R54, 43_session R145, R146: what has been sent only grows, by S_TX's byte at `tx_index`; TX_TAKE moves a
byte from the FIFO to the line; a reset loses the queued bytes and keeps those on the line. -/
def Obligations.SentBytesGrowInIndexOrder : Prop :=
  ∀ (i : Instr) (s t : State), exec i s = .next t →
    s.txOut <+: t.txOut ∧ (i ≠ .txTake → t.txOut = s.txOut) ∧
    (¬ s.Resets i →
      t.sent = s.sent ∨
        (i = .sTx ∧ t.txIndex.toNat = s.txIndex.toNat + 1 ∧
          ∃ b, Memory.read s.respBuf s.txIndex.toNat = some b ∧ t.sent = s.sent ++ [b]))

/-- 41_framer R107, for any schedule of the agents and from any cursor c: with no silence, no reject of the cursor, no
reset and no byte lost, the ISR_EXIT that finds all n bytes drained (c + n at most 64) leaves them in cells c to c+n-1
in arrival order and the cells below c as they were; reaching 64 sets `ready` and returns the cursor to 0, fewer leave
it at c + n. The FIFO starts empty and no timeout is pending. -/
def Obligations.PacketsAssembleUnderAnySchedule : Prop :=
  ∀ (is : List Instr) (s t : State), s.isrPc = .idle → s.cursor.toNat < 64 → s.rxFifo = [] →
    s.rxToutPending = false → s.cursor.toNat + (arrivals is).length ≤ 64 →
    runUndisturbed (is ++ [.isrExit]) s = some t → t.rxFifo = [] →
    (∀ (a : Nat) (h : a < (arrivals is).length), Memory.read t.rxBuf (s.cursor.toNat + a) = some (arrivals is)[a]) ∧
    (∀ a, a < s.cursor.toNat → Memory.read t.rxBuf a = Memory.read s.rxBuf a) ∧
    (s.cursor.toNat + (arrivals is).length = 64 → t.ready = true ∧ t.cursor.toNat = 0) ∧
    (s.cursor.toNat + (arrivals is).length < 64 → t.cursor.toNat = s.cursor.toNat + (arrivals is).length)

/-- 41_framer R107: 64 bytes delivered one at a time from cursor 0 with no timeout in between set `ready`, leave the
cursor at 0 and the buffer with the bytes in arrival order. -/
def Obligations.FullPacketIsDeliveredInArrivalOrder : Prop :=
  ∀ (s : State) (p : Packet), s.Running → s.isrPc = .idle → s.cursor.toNat = 0 → s.rxFifo = [] →
    s.rxToutPending = false → 1 ≤ s.cfg.rxFifoDepth →
    ∃ t, execAll (deliverEach p.toList) s = .next t ∧ t.ready = true ∧ t.cursor.toNat = 0 ∧ t.isrPc = .idle ∧
      t.rxFifo = [] ∧ t.mainPc = s.mainPc ∧
      ∀ (a : Nat) (h : a < 64), Memory.read t.rxBuf a = some p[a]

/-- 41_framer R108: k bytes with 0 < k < 64, a silence, then 64 new bytes: after the silence nothing is ready and the
cursor is 0, and the buffer ends as the second set alone. -/
def Obligations.ShortPacketIsDiscardedWhole : Prop :=
  ∀ (s : State) (short : List Byte) (p : Packet), s.Running → s.isrPc = .idle →
    s.cursor.toNat = 0 → s.rxFifo = [] → s.rxToutPending = false → s.ready = false → 1 ≤ s.cfg.rxFifoDepth →
    s.cfg.timeoutPolicy = .discardPartial → 0 < short.length → short.length < 64 →
    ∃ u t, execAll (deliverEach short ++ silenceRun) s = .next u ∧ u.ready = false ∧ u.cursor.toNat = 0 ∧
      execAll (deliverEach p.toList) u = .next t ∧ t.ready = true ∧ t.cursor.toNat = 0 ∧
      ∀ (a : Nat) (h : a < 64), Memory.read t.rxBuf a = some p[a]

/-- 30_encoding R78, 41_framer R109: one invocation moves as many queued bytes as the buffer has room for, to
consecutive cells, leaves the rest queued, and delivers the packet exactly when the 64th cell is filled. -/
def Obligations.InterruptRunDrainsUpToCapacity : Prop :=
  ∀ (s : State) (k : Nat), s.Running → s.isrPc = .idle → s.rxFifo ≠ [] ∨ s.rxToutPending = true →
    s.cursor.toNat ≤ 64 → k = min s.rxFifo.length (64 - s.cursor.toNat) →
    ∃ t, execAll (Pseudo.isrRun.expand s) s = .next t ∧ t.isrPc = .idle ∧ t.mainPc = s.mainPc ∧
      t.rxFifo = s.rxFifo.drop k ∧
      (∀ j, j < k → Memory.read t.rxBuf (s.cursor.toNat + j) = s.rxFifo[j]?) ∧
      (∀ a, a < s.cursor.toNat ∨ s.cursor.toNat + k ≤ a → Memory.read t.rxBuf a = Memory.read s.rxBuf a) ∧
      (s.cursor.toNat + k = 64 → t.ready = true ∧ t.cursor.toNat = 0) ∧
      (s.cursor.toNat + k < 64 → s.rxToutPending = false →
        t.ready = s.ready ∧ t.cursor.toNat = s.cursor.toNat + k)

/-- 43_session R147, 20_memory R54: a written response, taken byte by byte, reaches the line whole and in index order,
and the loop is back at S_POLL. -/
def Obligations.ResponseReachesTheLineInOrder : Prop :=
  ∀ (s : State) (p : Packet), s.AtMain .sTx → s.txIndex.toNat = 0 → s.txFifo = [] → 1 ≤ s.cfg.txFifoDepth →
    (∀ (a : Nat) (h : a < 64), Memory.read s.respBuf a = some p[a]) →
    ∃ t, execAll (transmitEach 64) s = .next t ∧ t.txIndex.toNat = 64 ∧
      t = { s with txOut := s.txOut ++ p.toList, txIndex := t.txIndex, mainPc := .sPoll }

/-- 43_session R147, R148: from S_POLL with a whole packet ready and no byte drained meanwhile, five MAIN steps kick the
watchdog, clear the flag before the parse, and leave PARSE_FN of exactly that packet in the Response Buffer. -/
def Obligations.ReadyPacketIsParsedWhole : Prop :=
  ∀ (s : State) (p : Packet), s.AtMain .sPoll → s.ready = true →
    (∀ (a : Nat) (h : a < 64), Memory.read s.rxBuf a = some p[a]) →
    ∃ t, execAll [.sPoll, .sKick, .sClear, .sParseBegin, .sParseEnd] s = .next t ∧
      t.mainPc = .sTx ∧ t.ready = false ∧ t.txIndex.toNat = 0 ∧
      (s.wdtEnabled = true → t.wdtCount = s.cfg.wdtTimeoutTicks) ∧
      ∀ (a : Nat) (h : a < 64), Memory.read t.respBuf a = some (Config.parseFn p)[a]

/-- 42_connect R132: the code in cells 0 to 3, seen through the flag or through the cursor, is accepted within four MAIN
steps, whatever the other cells hold and whatever the deadline. -/
def Obligations.ConnectIsAcceptedInFourSteps : Prop :=
  ∀ (s : State) (b0 b1 b2 b3 : Byte), s.AtMain .cwTestReady → s.ready = true ∨ 4 ≤ s.cursor.toNat →
    Memory.read s.rxBuf 0 = some b0 → Memory.read s.rxBuf 1 = some b1 →
    Memory.read s.rxBuf 2 = some b2 → Memory.read s.rxBuf 3 = some b3 →
    s.cfg.connectCode = b3 ++ b2 ++ b1 ++ b0 →
    ∃ n t, n ≤ 4 ∧ execAll (expandMainRun n s) s = .next t ∧
      t.phase = (if s.cfg.connectTailPolicy = .discard then .connectTail else .session) ∧
      t.ready = s.ready ∧ t.cursor = s.cursor

/-- 42_connect R127, R134: once the deadline has expired, the main sequencer left alone leaves Phase A within seven of
its steps. -/
def Obligations.ExpiredDeadlineEndsPhaseA : Prop :=
  ∀ s : State, s.Inv → s.cfg.timeoutPolicy = .discardPartial → s.Safe → s.isrPc = .idle → s.phase = .connectWait →
    s.dlExpired = true →
    ∃ n t, n ≤ 7 ∧ execAll (expandMainRun n s) s = .next t ∧
      (t.phase = .booted ∨ t.phase = .connectTail ∨ t.phase = .session)

/-- 44_timers_reset R160, R162: with the watchdog stopped, n ticks take n off the deadline, which is expired exactly
when they reach its count. -/
def Obligations.DeadlineExpiresOnItsLastTick : Prop :=
  ∀ (s : State) (n : Nat), s.Running → s.wdtEnabled = false → (s.dlExpired = true ↔ s.dlCount = 0) →
    ∃ t, execAll (List.replicate n .tick) s = .next t ∧ t.dlCount.toNat = s.dlCount.toNat - n ∧
      (t.dlExpired = true ↔ s.dlCount.toNat ≤ n) ∧
      t = { s with dlCount := t.dlCount, dlExpired := t.dlExpired }

/-- 44_timers_reset R160, R163: a running watchdog with n+1 ticks left and no kick survives n ticks and resets the block
on the next, keeping only what has left on the line. -/
def Obligations.WatchdogResetsOnItsLastTick : Prop :=
  ∀ (s : State) (n : Nat), s.Running → s.wdtEnabled = true → s.wdtCount.toNat = n + 1 →
    ∃ u t, execAll (List.replicate n .tick) s = .next u ∧ u.wdtCount.toNat = 1 ∧ u.mainPc = s.mainPc ∧
      u.ready = s.ready ∧ u.cursor = s.cursor ∧
      execAll (List.replicate (n + 1) .tick) s = .next t ∧ t.lastResetCause = .watchdog ∧
      t.mainPc = .cwTestReady ∧ t.isrPc = .idle ∧ t.txOut = s.txOut ∧ t.txFifo = [] ∧ t.rxFifo = []

/-! ### Noninterference -/

/-- 10_state R21, R28, R35, R40: no step reads `rx_overflow`, `tx_out` or `last_reset_cause`. Two states that differ
only there take the same steps to states that differ only there. -/
def Obligations.ObservedElementsInfluenceNothing : Prop :=
  ∀ (i : Instr) (s s' : State), s.forgetObserved = s'.forgetObserved →
    mapNext State.forgetObserved (exec i s) = mapNext State.forgetObserved (exec i s')

/-- 10_state R36, 90_conflicts C6: only CW_DEADLINE reads the deadline, so no other step lets it be seen anywhere else. -/
def Obligations.DeadlineInfluencesOnlyCwDeadline : Prop :=
  ∀ (i : Instr) (s s' : State), i ≠ .cwDeadline → s.forgetDeadline = s'.forgetDeadline →
    mapNext State.forgetDeadline (exec i s) = mapNext State.forgetDeadline (exec i s')
end

