-- ==== Sys2Proof/Laws/Memory.lean ====
section
/-! SUPPORT. What the operations over byte spaces do: read after write, the canonical form, MemRead of n bytes. -/

namespace Sys2Proof.Machine

@[simp] theorem Memory.read_nil (a : Nat) : Memory.read [] a = none := rfl

theorem Memory.read_cons (k : Nat) (v : Byte) (m : Memory) (a : Nat) :
    Memory.read ((k, v) :: m) a = if k = a then some v else Memory.read m a := rfl

/-- The cell written reads back the byte written. -/
@[simp] theorem Memory.read_write_self (m : Memory) (a : Nat) (b : Byte) :
    Memory.read (Memory.write m a b) a = some b := by
  induction m with
  | nil => simp [Memory.write, Memory.read]
  | cons c rest ih =>
    obtain ⟨k, v⟩ := c
    simp only [Memory.write]
    split
    · simp [Memory.read]
    · split
      · simp [Memory.read]
      · rw [Memory.read_cons, if_neg (by omega), ih]

/-- Every other cell is left alone. -/
theorem Memory.read_write_other (m : Memory) (a c : Nat) (b : Byte) (h : c ≠ a) :
    Memory.read (Memory.write m a b) c = Memory.read m c := by
  induction m with
  | nil => simp [Memory.write, Memory.read, Ne.symm h]
  | cons x rest ih =>
    obtain ⟨k, v⟩ := x
    simp only [Memory.write]
    split
    · simp [Memory.read, Ne.symm h]
    · split
      · rename_i _ hk; subst hk; simp [Memory.read, Ne.symm h]
      · simp only [Memory.read_cons, ih]

theorem Memory.read_write (m : Memory) (a c : Nat) (b : Byte) :
    Memory.read (Memory.write m a b) c = if c = a then some b else Memory.read m c := by
  split
  · rename_i h; subst h; simp
  · exact Memory.read_write_other m a c b ‹_›

/-- The indices of a byte space after a write: the written one, or one that was there. -/
theorem Memory.mem_write {m : Memory} {a : Nat} {b : Byte} {c : Host.Cell}
    (h : c ∈ Memory.write m a b) : c = (a, b) ∨ c ∈ m := by
  induction m with
  | nil => simpa [Memory.write] using h
  | cons x rest ih =>
    obtain ⟨k, v⟩ := x
    simp only [Memory.write] at h
    split at h
    · simpa using h
    · split at h
      · simp only [List.mem_cons] at h ⊢; tauto
      · simp only [List.mem_cons] at h ⊢
        rcases h with h | h
        · exact .inr (.inl h)
        · rcases ih h with h | h <;> tauto

@[simp] theorem Memory.wf_nil : Memory.wf [] := by simp [Memory.wf]

/-- A write keeps the canonical form. -/
theorem Memory.wf_write {m : Memory} {a : Nat} (b : Byte) (hm : Memory.wf m) (ha : a < pktSize) :
    Memory.wf (Memory.write m a b) := by
  refine ⟨?_, ?_⟩
  · have hp := hm.1
    clear hm
    induction m with
    | nil => simp [Memory.write]
    | cons x rest ih =>
      obtain ⟨k, v⟩ := x
      obtain ⟨hk, hr⟩ := List.pairwise_cons.1 hp
      simp only [Memory.write]
      split
      · rename_i hlt
        refine List.pairwise_cons.2 ⟨fun c hc => ?_, hp⟩
        rcases List.mem_cons.1 hc with rfl | hc
        · exact hlt
        · exact Nat.lt_trans hlt (hk c hc)
      · split
        · rename_i _ he; subst he; exact List.pairwise_cons.2 ⟨fun c hc => hk c hc, hr⟩
        · refine List.pairwise_cons.2 ⟨fun c hc => ?_, ih hr⟩
          rcases Memory.mem_write hc with rfl | hc
          · show k < a; omega
          · exact hk c hc
  · intro c hc
    rcases Memory.mem_write hc with rfl | hc
    · exact ha
    · exact hm.2 c hc

theorem Memory.mem_ofBytes {a : Nat} {bs : List Byte} {c : Host.Cell} (h : c ∈ Memory.ofBytes a bs) :
    a ≤ c.1 ∧ c.1 < a + bs.length := by
  induction bs generalizing a with
  | nil => simp [Memory.ofBytes] at h
  | cons b rest ih =>
    rcases List.mem_cons.1 h with rfl | h
    · simp
    · have := ih h; simp only [List.length_cons]; omega

/-- A byte space made from bytes is in canonical form. -/
theorem Memory.wf_ofBytes {a : Nat} {bs : List Byte} (h : a + bs.length ≤ pktSize) :
    Memory.wf (Memory.ofBytes a bs) := by
  refine ⟨?_, fun c hc => ?_⟩
  · clear h
    induction bs generalizing a with
    | nil => simp [Memory.ofBytes]
    | cons b rest ih =>
      refine List.pairwise_cons.2 ⟨fun c hc => ?_, ih⟩
      have := Memory.mem_ofBytes hc; show a < c.1; omega
  · have := Memory.mem_ofBytes hc; omega

@[simp] theorem Memory.wf_ofPacket (p : Packet) : Memory.wf (Memory.ofPacket p) :=
  Memory.wf_ofBytes (by simp)

theorem Memory.read_ofBytes (a : Nat) (bs : List Byte) (k : Nat) :
    Memory.read (Memory.ofBytes a bs) k = if a ≤ k then bs[k - a]? else none := by
  induction bs generalizing a with
  | nil => simp [Memory.ofBytes]
  | cons b rest ih =>
    simp only [Memory.ofBytes, Memory.read_cons, ih]
    by_cases h : a = k
    · subst h; simp
    · by_cases h2 : a ≤ k
      · rw [if_neg h, if_pos (by omega), if_pos h2, show k - a = (k - (a + 1)) + 1 by omega]; simp
      · rw [if_neg h, if_neg (by omega), if_neg h2]

/-- Cell `i` of a packet laid out reads as byte `i` of the packet. -/
theorem Memory.read_ofPacket (p : Packet) (i : Nat) (h : i < pktSize) :
    Memory.read (Memory.ofPacket p) i = some p[i] := by
  simp [Memory.ofPacket, Memory.read_ofBytes, h]

/-- MemRead succeeds with the bytes exactly when every cell reads as its byte. -/
theorem Memory.readN_ok_iff (m : Memory) (a n : Nat) (v : Vector Byte n) :
    Memory.readN m a n = .ok v ↔ ∀ i (h : i < n), Memory.read m (a + i) = some v[i] := by
  induction n with
  | zero =>
    refine ⟨fun _ i h => absurd h (by omega), fun _ => ?_⟩
    simp only [Memory.readN, Except.ok.injEq]
    ext i hi; omega
  | succ k ih =>
    simp only [Memory.readN]
    constructor
    · intro h
      split at h
      · cases h
      · rename_i bs hbs
        split at h
        · cases h
        · rename_i b hb
          simp only [Except.ok.injEq] at h
          subst h
          intro i hi
          rcases Nat.lt_succ_iff_lt_or_eq.1 hi with hlt | rfl
          · rw [(ih bs).1 hbs i hlt, Vector.getElem_push_lt]
          · rw [hb, Vector.getElem_push_eq]
    · intro h
      have h0 : Memory.readN m a k = .ok v.pop := (ih v.pop).2 fun i hi => by
        rw [h i (by omega)]; simp
      rw [h0]
      simp only [h k (by omega), Except.ok.injEq]
      exact Vector.push_pop_back v

/-- MemRead fails with the lowest UNWRITTEN index. -/
theorem Memory.readN_error_iff (m : Memory) (a n e : Nat) :
    Memory.readN m a n = .error e ↔
      a ≤ e ∧ e < a + n ∧ Memory.read m e = none ∧ ∀ k, a ≤ k → k < e → Memory.read m k ≠ none := by
  induction n generalizing e with
  | zero =>
    simp only [Memory.readN, reduceCtorEq, false_iff]
    rintro ⟨h1, h2, -⟩; omega
  | succ n ih =>
    simp only [Memory.readN]
    cases hr : Memory.readN m a n with
    | error x =>
      obtain ⟨g1, g2, g3, g4⟩ := (ih x).1 hr
      simp only [Except.error.injEq]
      refine ⟨by rintro rfl; exact ⟨g1, by omega, g3, g4⟩, fun ⟨h1, _, h3, h4⟩ => ?_⟩
      rcases Nat.lt_trichotomy e x with h | h | h
      · exact absurd h3 (g4 e h1 h)
      · exact h.symm
      · exact absurd g3 (h4 x g1 h)
    | ok v =>
      have hv := (Memory.readN_ok_iff m a n v).1 hr
      have below : ∀ k, a ≤ k → k < a + n → Memory.read m k ≠ none := fun k h1 h2 => by
        have := hv (k - a) (by omega)
        rw [show a + (k - a) = k by omega] at this
        simp [this]
      cases hl : Memory.read m (a + n) with
      | none =>
        simp only [Except.error.injEq]
        refine ⟨by rintro rfl; exact ⟨by omega, by omega, hl, below⟩, fun ⟨h1, h2, h3, h4⟩ => ?_⟩
        by_contra hne
        exact below e h1 (by omega) h3
      | some b =>
        simp only [reduceCtorEq, false_iff]
        rintro ⟨h1, h2, h3, -⟩
        rcases Nat.lt_or_ge e (a + n) with h | h
        · exact below e h1 h h3
        · rw [show e = a + n by omega, hl] at h3; cases h3

/-- MemRead of written cells succeeds. -/
theorem Memory.readN_total {m : Memory} {a n : Nat} (h : ∀ k, a ≤ k → k < a + n → Memory.read m k ≠ none) :
    ∃ v, Memory.readN m a n = .ok v := by
  cases hr : Memory.readN m a n with
  | ok v => exact ⟨v, rfl⟩
  | error e =>
    obtain ⟨h1, h2, h3, -⟩ := (Memory.readN_error_iff m a n e).1 hr
    exact absurd h3 (h e h1 h2)

/-- Equal memories are equal data: two canonical byte spaces with the same cells are the same list. -/
theorem Memory.ext_of_read {m m' : Memory} (hm : Memory.wf m) (hm' : Memory.wf m')
    (h : ∀ a, Memory.read m a = Memory.read m' a) : m = m' := by
  have low : ∀ {k : Nat} {r : Memory}, (∀ c ∈ r, k < c.1) → ∀ a ≤ k, Memory.read r a = none := by
    intro k r hr a ha
    induction r with
    | nil => rfl
    | cons c r ih =>
      obtain ⟨x, v⟩ := c
      have := hr (x, v) (by simp)
      rw [Memory.read_cons, if_neg (by simp only at this; omega)]
      exact ih fun c hc => hr c (by simp [hc])
  have hp := hm.1
  have hp' := hm'.1
  clear hm hm'
  induction m generalizing m' with
  | nil =>
    cases m' with
    | nil => rfl
    | cons c r => have := h c.1; simp [Memory.read] at this
  | cons c r ih =>
    obtain ⟨k, v⟩ := c
    cases m' with
    | nil => have := h k; simp [Memory.read] at this
    | cons c' r' =>
      obtain ⟨k', v'⟩ := c'
      obtain ⟨hk, hr⟩ := List.pairwise_cons.1 hp
      obtain ⟨hk', hr'⟩ := List.pairwise_cons.1 hp'
      have e1 : k = k' := by
        rcases Nat.lt_trichotomy k k' with hlt | he | hlt
        · have := h k
          rw [Memory.read_cons, if_pos rfl, Memory.read_cons, if_neg (by omega), low hk' k (by omega)] at this
          cases this
        · exact he
        · have := h k'
          rw [Memory.read_cons, if_neg (by omega), low hk k' (by omega), Memory.read_cons, if_pos rfl] at this
          cases this
      subst e1
      have e2 : v = v' := by have := h k; simpa [Memory.read] using this
      subst e2
      congr 1
      refine ih (fun a => ?_) hr hr'
      by_cases ha : k = a
      · subst ha; rw [low hk k (by omega), low hk' k (by omega)]
      · have := h a
        simpa [Memory.read, ha] using this

end Sys2Proof.Machine
end

