-- ==== Sys2Proof/Laws/Ops.lean ====
section
/-! SUPPORT. What the shared operations can do: the guards, MemRead, the outcome of a guarded step, runs of steps. -/

namespace Sys2Proof.Machine

@[simp] theorem State.active_iff (s : State) : s.active = true ↔ s.Running := by
  simp [State.active, State.Running]

@[simp] theorem State.mainAt_iff (s : State) (m : MainPc) (h : m ≠ .booted) : s.mainAt m = true ↔ s.AtMain m := by
  simp only [State.mainAt, State.active, State.AtMain, Bool.and_eq_true, decide_eq_true_eq]
  constructor
  · rintro ⟨⟨⟨h1, h2⟩, h3⟩, h4⟩; exact ⟨h1, h3, h4⟩
  · rintro ⟨h1, h2, rfl⟩; exact ⟨⟨⟨h1, h⟩, h2⟩, rfl⟩

@[simp] theorem State.isrAt_iff (s : State) (p : IsrPc) : s.isrAt p = true ↔ s.Running ∧ s.isrPc = p := by
  simp [State.isrAt]

@[simp] theorem State.rxRequested_iff (s : State) :
    s.rxRequested = true ↔ s.rxFifo ≠ [] ∨ s.rxToutPending = true := by
  simp [State.rxRequested]

/-- A guarded step whose guard holds is the step. -/
@[simp] theorem takeIf_true (s : State) (o : Host.Outcome State Fault Refusal) : takeIf true s o = o := rfl

/-- A guarded step whose guard fails is refused NOT_ENABLED. -/
@[simp] theorem takeIf_false (s : State) (o : Host.Outcome State Fault Refusal) :
    takeIf false s o = .refused (.notEnabled s.tracePos) := rfl

/-- A guarded step answers a next state only when its guard holds. -/
theorem takeIf_eq_next {g : Bool} {s t : State} {o : Host.Outcome State Fault Refusal} :
    takeIf g s o = .next t ↔ g = true ∧ o = .next t := by
  cases g <;> simp

theorem takeIf_next_eq_next {g : Bool} {s t u : State} : takeIf g s (.next u) = .next t ↔ g = true ∧ t = u := by
  rw [takeIf_eq_next, Host.Outcome.next.injEq, eq_comm (a := u)]

/-- A guarded step stops with a fault only when its guard holds. -/
theorem takeIf_eq_fault {g : Bool} {s : State} {f : Fault} {o : Host.Outcome State Fault Refusal} :
    takeIf g s o = .fault f ↔ g = true ∧ o = .fault f := by
  cases g <;> simp

/-- A step whose effect is a next state never stops with a fault. -/
theorem takeIf_next_ne_fault {g : Bool} {s u : State} {f : Fault} : takeIf g s (.next u) ≠ .fault f := by
  cases g <;> simp

/-- MemRead succeeds with the bytes exactly when every cell reads as its byte. -/
theorem State.memRead_ok_iff (s : State) (sp : Space) (a n : Nat) (v : Vector Byte n) :
    s.memRead sp a n = .ok v ↔ ∀ i (h : i < n), Memory.read (s.memory sp) (a + i) = some v[i] := by
  rw [← Memory.readN_ok_iff]
  simp only [State.memRead]
  split
  · rename_i h; rw [h]; simp
  · rename_i h; simp [h]

/-- MemRead raises UNWRITTEN_READ at the lowest UNWRITTEN index. -/
theorem State.memRead_error_iff (s : State) (sp : Space) (a n : Nat) (r : FaultRecord) :
    s.memRead sp a n = .error r ↔
      r.code = .unwrittenRead ∧ r.space = sp ∧ a ≤ r.addr ∧ r.addr < a + n ∧
        Memory.read (s.memory sp) r.addr = none ∧
          ∀ k, a ≤ k → k < r.addr → Memory.read (s.memory sp) k ≠ none := by
  simp only [State.memRead]
  split
  · rename_i v h
    simp only [reduceCtorEq, false_iff]
    rintro ⟨-, -, h'⟩
    rw [← Memory.readN_error_iff, h] at h'
    cases h'
  · rename_i e h
    obtain ⟨c, sp', x⟩ := r
    cases c
    rw [← Memory.readN_error_iff, h]
    simp [eq_comm]

/-- A step word that is taken: the meaning's next state, moved past the word. -/
theorem advanceOutcome_eq_next {o : Host.Outcome State Fault Refusal} {t : State} :
    advanceOutcome o = .next t ↔ ∃ u, o = .next u ∧ t = u.advance := by
  cases o <;> simp [advanceOutcome, eq_comm]

@[simp] theorem execAll_nil (s : State) : execAll [] s = .next s := rfl

theorem execAll_cons_of_next {i : Instr} {is : List Instr} {s t : State} (h : exec i s = .next t) :
    execAll (i :: is) s = execAll is t := by
  simp [execAll, h]

/-- A schedule that starts with a run goes on from where the run ends. -/
theorem execAll_append_of_next {is js : List Instr} {s t : State} (h : execAll is s = .next t) :
    execAll (is ++ js) s = execAll js t := by
  induction is generalizing s with
  | nil => simp only [execAll_nil, Host.Outcome.next.injEq] at h; subst h; rfl
  | cons i is ih =>
    simp only [execAll] at h
    cases hi : exec i s with
    | next u => rw [hi] at h; rw [List.cons_append, execAll_cons_of_next hi]; exact ih h
    | fault f => rw [hi] at h; cases h
    | refused r => rw [hi] at h; cases h

/-- What one step of the machine can do: it takes the word at the head of the trace. -/
theorem step_eq_next {s t : State} (h : step s = .next t) :
    ∃ w i u, s.trace.head? = some w ∧ decode w = .step i ∧ exec i s = .next u ∧ t = u.advance := by
  simp only [step, State.nextWord] at h
  split at h
  · cases h
  · rename_i w hw
    split at h
    · cases h
    · rename_i i hi
      obtain ⟨u, hu, ht⟩ := advanceOutcome_eq_next.1 h
      exact ⟨w, i, u, hw, hi, hu, ht⟩

end Sys2Proof.Machine
end

