-- ==== Sys2Proof/Laws/State.lean ====
section
/-! SUPPORT. One lemma per field for each named update of the state, true by rfl, so that no proof unfolds an update. -/

namespace Sys2Proof.Machine

/-! ### goMain -/

@[simp] theorem State.goMain_rxBuf (s : State) (m : MainPc) : (s.goMain m).rxBuf = s.rxBuf := rfl
@[simp] theorem State.goMain_cursor (s : State) (m : MainPc) : (s.goMain m).cursor = s.cursor := rfl
@[simp] theorem State.goMain_ready (s : State) (m : MainPc) : (s.goMain m).ready = s.ready := rfl
@[simp] theorem State.goMain_rxFifo (s : State) (m : MainPc) : (s.goMain m).rxFifo = s.rxFifo := rfl
@[simp] theorem State.goMain_rxToutPending (s : State) (m : MainPc) : (s.goMain m).rxToutPending = s.rxToutPending := rfl
@[simp] theorem State.goMain_rxOverflow (s : State) (m : MainPc) : (s.goMain m).rxOverflow = s.rxOverflow := rfl
@[simp] theorem State.goMain_isrPc (s : State) (m : MainPc) : (s.goMain m).isrPc = s.isrPc := rfl
@[simp] theorem State.goMain_isrTout (s : State) (m : MainPc) : (s.goMain m).isrTout = s.isrTout := rfl
@[simp] theorem State.goMain_mainPc (s : State) (m : MainPc) : (s.goMain m).mainPc = m := rfl
@[simp] theorem State.goMain_cmdWord (s : State) (m : MainPc) : (s.goMain m).cmdWord = s.cmdWord := rfl
@[simp] theorem State.goMain_ctZero (s : State) (m : MainPc) : (s.goMain m).ctZero = s.ctZero := rfl
@[simp] theorem State.goMain_reqLatch (s : State) (m : MainPc) : (s.goMain m).reqLatch = s.reqLatch := rfl
@[simp] theorem State.goMain_parseDirty (s : State) (m : MainPc) : (s.goMain m).parseDirty = s.parseDirty := rfl
@[simp] theorem State.goMain_respBuf (s : State) (m : MainPc) : (s.goMain m).respBuf = s.respBuf := rfl
@[simp] theorem State.goMain_txIndex (s : State) (m : MainPc) : (s.goMain m).txIndex = s.txIndex := rfl
@[simp] theorem State.goMain_txFifo (s : State) (m : MainPc) : (s.goMain m).txFifo = s.txFifo := rfl
@[simp] theorem State.goMain_txOut (s : State) (m : MainPc) : (s.goMain m).txOut = s.txOut := rfl
@[simp] theorem State.goMain_dlCount (s : State) (m : MainPc) : (s.goMain m).dlCount = s.dlCount := rfl
@[simp] theorem State.goMain_dlExpired (s : State) (m : MainPc) : (s.goMain m).dlExpired = s.dlExpired := rfl
@[simp] theorem State.goMain_wdtEnabled (s : State) (m : MainPc) : (s.goMain m).wdtEnabled = s.wdtEnabled := rfl
@[simp] theorem State.goMain_wdtCount (s : State) (m : MainPc) : (s.goMain m).wdtCount = s.wdtCount := rfl
@[simp] theorem State.goMain_fault (s : State) (m : MainPc) : (s.goMain m).fault = s.fault := rfl
@[simp] theorem State.goMain_lastResetCause (s : State) (m : MainPc) : (s.goMain m).lastResetCause = s.lastResetCause := rfl
@[simp] theorem State.goMain_cfg (s : State) (m : MainPc) : (s.goMain m).cfg = s.cfg := rfl
@[simp] theorem State.goMain_trace (s : State) (m : MainPc) : (s.goMain m).trace = s.trace := rfl
@[simp] theorem State.goMain_tracePos (s : State) (m : MainPc) : (s.goMain m).tracePos = s.tracePos := rfl
@[simp] theorem State.goMain_draws (s : State) (m : MainPc) : (s.goMain m).draws = s.draws := rfl

/-! ### raiseFault -/

@[simp] theorem State.raiseFault_rxBuf (s : State) (r : FaultRecord) : (s.raiseFault r).rxBuf = s.rxBuf := rfl
@[simp] theorem State.raiseFault_cursor (s : State) (r : FaultRecord) : (s.raiseFault r).cursor = s.cursor := rfl
@[simp] theorem State.raiseFault_ready (s : State) (r : FaultRecord) : (s.raiseFault r).ready = s.ready := rfl
@[simp] theorem State.raiseFault_rxFifo (s : State) (r : FaultRecord) : (s.raiseFault r).rxFifo = s.rxFifo := rfl
@[simp] theorem State.raiseFault_rxToutPending (s : State) (r : FaultRecord) : (s.raiseFault r).rxToutPending = s.rxToutPending := rfl
@[simp] theorem State.raiseFault_rxOverflow (s : State) (r : FaultRecord) : (s.raiseFault r).rxOverflow = s.rxOverflow := rfl
@[simp] theorem State.raiseFault_isrPc (s : State) (r : FaultRecord) : (s.raiseFault r).isrPc = s.isrPc := rfl
@[simp] theorem State.raiseFault_isrTout (s : State) (r : FaultRecord) : (s.raiseFault r).isrTout = s.isrTout := rfl
@[simp] theorem State.raiseFault_mainPc (s : State) (r : FaultRecord) : (s.raiseFault r).mainPc = s.mainPc := rfl
@[simp] theorem State.raiseFault_cmdWord (s : State) (r : FaultRecord) : (s.raiseFault r).cmdWord = s.cmdWord := rfl
@[simp] theorem State.raiseFault_ctZero (s : State) (r : FaultRecord) : (s.raiseFault r).ctZero = s.ctZero := rfl
@[simp] theorem State.raiseFault_reqLatch (s : State) (r : FaultRecord) : (s.raiseFault r).reqLatch = s.reqLatch := rfl
@[simp] theorem State.raiseFault_parseDirty (s : State) (r : FaultRecord) : (s.raiseFault r).parseDirty = s.parseDirty := rfl
@[simp] theorem State.raiseFault_respBuf (s : State) (r : FaultRecord) : (s.raiseFault r).respBuf = s.respBuf := rfl
@[simp] theorem State.raiseFault_txIndex (s : State) (r : FaultRecord) : (s.raiseFault r).txIndex = s.txIndex := rfl
@[simp] theorem State.raiseFault_txFifo (s : State) (r : FaultRecord) : (s.raiseFault r).txFifo = s.txFifo := rfl
@[simp] theorem State.raiseFault_txOut (s : State) (r : FaultRecord) : (s.raiseFault r).txOut = s.txOut := rfl
@[simp] theorem State.raiseFault_dlCount (s : State) (r : FaultRecord) : (s.raiseFault r).dlCount = s.dlCount := rfl
@[simp] theorem State.raiseFault_dlExpired (s : State) (r : FaultRecord) : (s.raiseFault r).dlExpired = s.dlExpired := rfl
@[simp] theorem State.raiseFault_wdtEnabled (s : State) (r : FaultRecord) : (s.raiseFault r).wdtEnabled = s.wdtEnabled := rfl
@[simp] theorem State.raiseFault_wdtCount (s : State) (r : FaultRecord) : (s.raiseFault r).wdtCount = s.wdtCount := rfl
@[simp] theorem State.raiseFault_fault (s : State) (r : FaultRecord) : (s.raiseFault r).fault = some r := rfl
@[simp] theorem State.raiseFault_lastResetCause (s : State) (r : FaultRecord) : (s.raiseFault r).lastResetCause = s.lastResetCause := rfl
@[simp] theorem State.raiseFault_cfg (s : State) (r : FaultRecord) : (s.raiseFault r).cfg = s.cfg := rfl
@[simp] theorem State.raiseFault_trace (s : State) (r : FaultRecord) : (s.raiseFault r).trace = s.trace := rfl
@[simp] theorem State.raiseFault_tracePos (s : State) (r : FaultRecord) : (s.raiseFault r).tracePos = s.tracePos := rfl
@[simp] theorem State.raiseFault_draws (s : State) (r : FaultRecord) : (s.raiseFault r).draws = s.draws := rfl

/-! ### enterIsr -/

@[simp] theorem State.enterIsr_rxBuf (s : State) : (s.enterIsr).rxBuf = s.rxBuf := rfl
@[simp] theorem State.enterIsr_cursor (s : State) : (s.enterIsr).cursor = s.cursor := rfl
@[simp] theorem State.enterIsr_ready (s : State) : (s.enterIsr).ready = s.ready := rfl
@[simp] theorem State.enterIsr_rxFifo (s : State) : (s.enterIsr).rxFifo = s.rxFifo := rfl
@[simp] theorem State.enterIsr_rxToutPending (s : State) : (s.enterIsr).rxToutPending = false := rfl
@[simp] theorem State.enterIsr_rxOverflow (s : State) : (s.enterIsr).rxOverflow = s.rxOverflow := rfl
@[simp] theorem State.enterIsr_isrPc (s : State) : (s.enterIsr).isrPc = .drain := rfl
@[simp] theorem State.enterIsr_isrTout (s : State) : (s.enterIsr).isrTout = s.rxToutPending := rfl
@[simp] theorem State.enterIsr_mainPc (s : State) : (s.enterIsr).mainPc = s.mainPc := rfl
@[simp] theorem State.enterIsr_cmdWord (s : State) : (s.enterIsr).cmdWord = s.cmdWord := rfl
@[simp] theorem State.enterIsr_ctZero (s : State) : (s.enterIsr).ctZero = s.ctZero := rfl
@[simp] theorem State.enterIsr_reqLatch (s : State) : (s.enterIsr).reqLatch = s.reqLatch := rfl
@[simp] theorem State.enterIsr_parseDirty (s : State) : (s.enterIsr).parseDirty = s.parseDirty := rfl
@[simp] theorem State.enterIsr_respBuf (s : State) : (s.enterIsr).respBuf = s.respBuf := rfl
@[simp] theorem State.enterIsr_txIndex (s : State) : (s.enterIsr).txIndex = s.txIndex := rfl
@[simp] theorem State.enterIsr_txFifo (s : State) : (s.enterIsr).txFifo = s.txFifo := rfl
@[simp] theorem State.enterIsr_txOut (s : State) : (s.enterIsr).txOut = s.txOut := rfl
@[simp] theorem State.enterIsr_dlCount (s : State) : (s.enterIsr).dlCount = s.dlCount := rfl
@[simp] theorem State.enterIsr_dlExpired (s : State) : (s.enterIsr).dlExpired = s.dlExpired := rfl
@[simp] theorem State.enterIsr_wdtEnabled (s : State) : (s.enterIsr).wdtEnabled = s.wdtEnabled := rfl
@[simp] theorem State.enterIsr_wdtCount (s : State) : (s.enterIsr).wdtCount = s.wdtCount := rfl
@[simp] theorem State.enterIsr_fault (s : State) : (s.enterIsr).fault = s.fault := rfl
@[simp] theorem State.enterIsr_lastResetCause (s : State) : (s.enterIsr).lastResetCause = s.lastResetCause := rfl
@[simp] theorem State.enterIsr_cfg (s : State) : (s.enterIsr).cfg = s.cfg := rfl
@[simp] theorem State.enterIsr_trace (s : State) : (s.enterIsr).trace = s.trace := rfl
@[simp] theorem State.enterIsr_tracePos (s : State) : (s.enterIsr).tracePos = s.tracePos := rfl
@[simp] theorem State.enterIsr_draws (s : State) : (s.enterIsr).draws = s.draws := rfl

/-! ### leaveIsr -/

@[simp] theorem State.leaveIsr_rxBuf (s : State) : (s.leaveIsr).rxBuf = s.rxBuf := rfl
@[simp] theorem State.leaveIsr_cursor (s : State) : (s.leaveIsr).cursor = s.cursor := rfl
@[simp] theorem State.leaveIsr_ready (s : State) : (s.leaveIsr).ready = s.ready := rfl
@[simp] theorem State.leaveIsr_rxFifo (s : State) : (s.leaveIsr).rxFifo = s.rxFifo := rfl
@[simp] theorem State.leaveIsr_rxToutPending (s : State) : (s.leaveIsr).rxToutPending = s.rxToutPending := rfl
@[simp] theorem State.leaveIsr_rxOverflow (s : State) : (s.leaveIsr).rxOverflow = s.rxOverflow := rfl
@[simp] theorem State.leaveIsr_isrPc (s : State) : (s.leaveIsr).isrPc = .idle := rfl
@[simp] theorem State.leaveIsr_isrTout (s : State) : (s.leaveIsr).isrTout = false := rfl
@[simp] theorem State.leaveIsr_mainPc (s : State) : (s.leaveIsr).mainPc = s.mainPc := rfl
@[simp] theorem State.leaveIsr_cmdWord (s : State) : (s.leaveIsr).cmdWord = s.cmdWord := rfl
@[simp] theorem State.leaveIsr_ctZero (s : State) : (s.leaveIsr).ctZero = s.ctZero := rfl
@[simp] theorem State.leaveIsr_reqLatch (s : State) : (s.leaveIsr).reqLatch = s.reqLatch := rfl
@[simp] theorem State.leaveIsr_parseDirty (s : State) : (s.leaveIsr).parseDirty = s.parseDirty := rfl
@[simp] theorem State.leaveIsr_respBuf (s : State) : (s.leaveIsr).respBuf = s.respBuf := rfl
@[simp] theorem State.leaveIsr_txIndex (s : State) : (s.leaveIsr).txIndex = s.txIndex := rfl
@[simp] theorem State.leaveIsr_txFifo (s : State) : (s.leaveIsr).txFifo = s.txFifo := rfl
@[simp] theorem State.leaveIsr_txOut (s : State) : (s.leaveIsr).txOut = s.txOut := rfl
@[simp] theorem State.leaveIsr_dlCount (s : State) : (s.leaveIsr).dlCount = s.dlCount := rfl
@[simp] theorem State.leaveIsr_dlExpired (s : State) : (s.leaveIsr).dlExpired = s.dlExpired := rfl
@[simp] theorem State.leaveIsr_wdtEnabled (s : State) : (s.leaveIsr).wdtEnabled = s.wdtEnabled := rfl
@[simp] theorem State.leaveIsr_wdtCount (s : State) : (s.leaveIsr).wdtCount = s.wdtCount := rfl
@[simp] theorem State.leaveIsr_fault (s : State) : (s.leaveIsr).fault = s.fault := rfl
@[simp] theorem State.leaveIsr_lastResetCause (s : State) : (s.leaveIsr).lastResetCause = s.lastResetCause := rfl
@[simp] theorem State.leaveIsr_cfg (s : State) : (s.leaveIsr).cfg = s.cfg := rfl
@[simp] theorem State.leaveIsr_trace (s : State) : (s.leaveIsr).trace = s.trace := rfl
@[simp] theorem State.leaveIsr_tracePos (s : State) : (s.leaveIsr).tracePos = s.tracePos := rfl
@[simp] theorem State.leaveIsr_draws (s : State) : (s.leaveIsr).draws = s.draws := rfl

/-! ### advance -/

@[simp] theorem State.advance_rxBuf (s : State) : (s.advance).rxBuf = s.rxBuf := rfl
@[simp] theorem State.advance_cursor (s : State) : (s.advance).cursor = s.cursor := rfl
@[simp] theorem State.advance_ready (s : State) : (s.advance).ready = s.ready := rfl
@[simp] theorem State.advance_rxFifo (s : State) : (s.advance).rxFifo = s.rxFifo := rfl
@[simp] theorem State.advance_rxToutPending (s : State) : (s.advance).rxToutPending = s.rxToutPending := rfl
@[simp] theorem State.advance_rxOverflow (s : State) : (s.advance).rxOverflow = s.rxOverflow := rfl
@[simp] theorem State.advance_isrPc (s : State) : (s.advance).isrPc = s.isrPc := rfl
@[simp] theorem State.advance_isrTout (s : State) : (s.advance).isrTout = s.isrTout := rfl
@[simp] theorem State.advance_mainPc (s : State) : (s.advance).mainPc = s.mainPc := rfl
@[simp] theorem State.advance_cmdWord (s : State) : (s.advance).cmdWord = s.cmdWord := rfl
@[simp] theorem State.advance_ctZero (s : State) : (s.advance).ctZero = s.ctZero := rfl
@[simp] theorem State.advance_reqLatch (s : State) : (s.advance).reqLatch = s.reqLatch := rfl
@[simp] theorem State.advance_parseDirty (s : State) : (s.advance).parseDirty = s.parseDirty := rfl
@[simp] theorem State.advance_respBuf (s : State) : (s.advance).respBuf = s.respBuf := rfl
@[simp] theorem State.advance_txIndex (s : State) : (s.advance).txIndex = s.txIndex := rfl
@[simp] theorem State.advance_txFifo (s : State) : (s.advance).txFifo = s.txFifo := rfl
@[simp] theorem State.advance_txOut (s : State) : (s.advance).txOut = s.txOut := rfl
@[simp] theorem State.advance_dlCount (s : State) : (s.advance).dlCount = s.dlCount := rfl
@[simp] theorem State.advance_dlExpired (s : State) : (s.advance).dlExpired = s.dlExpired := rfl
@[simp] theorem State.advance_wdtEnabled (s : State) : (s.advance).wdtEnabled = s.wdtEnabled := rfl
@[simp] theorem State.advance_wdtCount (s : State) : (s.advance).wdtCount = s.wdtCount := rfl
@[simp] theorem State.advance_fault (s : State) : (s.advance).fault = s.fault := rfl
@[simp] theorem State.advance_lastResetCause (s : State) : (s.advance).lastResetCause = s.lastResetCause := rfl
@[simp] theorem State.advance_cfg (s : State) : (s.advance).cfg = s.cfg := rfl
@[simp] theorem State.advance_trace (s : State) : (s.advance).trace = s.trace.tail := rfl
@[simp] theorem State.advance_tracePos (s : State) : (s.advance).tracePos = s.tracePos + 1 := rfl
@[simp] theorem State.advance_draws (s : State) : (s.advance).draws = s.draws := rfl

/-! ### drainByte -/

@[simp] theorem State.drainByte_rxBuf (s : State) (b : Byte) (l : List Byte) : (s.drainByte b l).rxBuf = Memory.write s.rxBuf s.cursor.toNat b := rfl
@[simp] theorem State.drainByte_cursor (s : State) (b : Byte) (l : List Byte) : (s.drainByte b l).cursor = s.cursor + 1 := rfl
@[simp] theorem State.drainByte_ready (s : State) (b : Byte) (l : List Byte) : (s.drainByte b l).ready = s.ready := rfl
@[simp] theorem State.drainByte_rxFifo (s : State) (b : Byte) (l : List Byte) : (s.drainByte b l).rxFifo = l := rfl
@[simp] theorem State.drainByte_rxToutPending (s : State) (b : Byte) (l : List Byte) : (s.drainByte b l).rxToutPending = s.rxToutPending := rfl
@[simp] theorem State.drainByte_rxOverflow (s : State) (b : Byte) (l : List Byte) : (s.drainByte b l).rxOverflow = s.rxOverflow := rfl
@[simp] theorem State.drainByte_isrPc (s : State) (b : Byte) (l : List Byte) : (s.drainByte b l).isrPc = s.isrPc := rfl
@[simp] theorem State.drainByte_isrTout (s : State) (b : Byte) (l : List Byte) : (s.drainByte b l).isrTout = s.isrTout := rfl
@[simp] theorem State.drainByte_mainPc (s : State) (b : Byte) (l : List Byte) : (s.drainByte b l).mainPc = s.mainPc := rfl
@[simp] theorem State.drainByte_cmdWord (s : State) (b : Byte) (l : List Byte) : (s.drainByte b l).cmdWord = s.cmdWord := rfl
@[simp] theorem State.drainByte_ctZero (s : State) (b : Byte) (l : List Byte) : (s.drainByte b l).ctZero = s.ctZero := rfl
@[simp] theorem State.drainByte_reqLatch (s : State) (b : Byte) (l : List Byte) : (s.drainByte b l).reqLatch = s.reqLatch := rfl
@[simp] theorem State.drainByte_parseDirty (s : State) (b : Byte) (l : List Byte) : (s.drainByte b l).parseDirty = s.dirtyAfterDrain := rfl
@[simp] theorem State.drainByte_respBuf (s : State) (b : Byte) (l : List Byte) : (s.drainByte b l).respBuf = s.respBuf := rfl
@[simp] theorem State.drainByte_txIndex (s : State) (b : Byte) (l : List Byte) : (s.drainByte b l).txIndex = s.txIndex := rfl
@[simp] theorem State.drainByte_txFifo (s : State) (b : Byte) (l : List Byte) : (s.drainByte b l).txFifo = s.txFifo := rfl
@[simp] theorem State.drainByte_txOut (s : State) (b : Byte) (l : List Byte) : (s.drainByte b l).txOut = s.txOut := rfl
@[simp] theorem State.drainByte_dlCount (s : State) (b : Byte) (l : List Byte) : (s.drainByte b l).dlCount = s.dlCount := rfl
@[simp] theorem State.drainByte_dlExpired (s : State) (b : Byte) (l : List Byte) : (s.drainByte b l).dlExpired = s.dlExpired := rfl
@[simp] theorem State.drainByte_wdtEnabled (s : State) (b : Byte) (l : List Byte) : (s.drainByte b l).wdtEnabled = s.wdtEnabled := rfl
@[simp] theorem State.drainByte_wdtCount (s : State) (b : Byte) (l : List Byte) : (s.drainByte b l).wdtCount = s.wdtCount := rfl
@[simp] theorem State.drainByte_fault (s : State) (b : Byte) (l : List Byte) : (s.drainByte b l).fault = s.fault := rfl
@[simp] theorem State.drainByte_lastResetCause (s : State) (b : Byte) (l : List Byte) : (s.drainByte b l).lastResetCause = s.lastResetCause := rfl
@[simp] theorem State.drainByte_cfg (s : State) (b : Byte) (l : List Byte) : (s.drainByte b l).cfg = s.cfg := rfl
@[simp] theorem State.drainByte_trace (s : State) (b : Byte) (l : List Byte) : (s.drainByte b l).trace = s.trace := rfl
@[simp] theorem State.drainByte_tracePos (s : State) (b : Byte) (l : List Byte) : (s.drainByte b l).tracePos = s.tracePos := rfl
@[simp] theorem State.drainByte_draws (s : State) (b : Byte) (l : List Byte) : (s.drainByte b l).draws = s.draws := rfl

/-! ### endDrain -/

@[simp] theorem State.endDrain_rxBuf (s : State) : (s.endDrain).rxBuf = s.rxBuf := rfl
@[simp] theorem State.endDrain_cursor (s : State) : (s.endDrain).cursor = s.cursor := rfl
@[simp] theorem State.endDrain_ready (s : State) : (s.endDrain).ready = s.ready := rfl
@[simp] theorem State.endDrain_rxFifo (s : State) : (s.endDrain).rxFifo = s.rxFifo := rfl
@[simp] theorem State.endDrain_rxToutPending (s : State) : (s.endDrain).rxToutPending = s.rxToutPending := rfl
@[simp] theorem State.endDrain_rxOverflow (s : State) : (s.endDrain).rxOverflow = s.rxOverflow := rfl
@[simp] theorem State.endDrain_isrPc (s : State) : (s.endDrain).isrPc = .exit := rfl
@[simp] theorem State.endDrain_isrTout (s : State) : (s.endDrain).isrTout = s.isrTout := rfl
@[simp] theorem State.endDrain_mainPc (s : State) : (s.endDrain).mainPc = s.mainPc := rfl
@[simp] theorem State.endDrain_cmdWord (s : State) : (s.endDrain).cmdWord = s.cmdWord := rfl
@[simp] theorem State.endDrain_ctZero (s : State) : (s.endDrain).ctZero = s.ctZero := rfl
@[simp] theorem State.endDrain_reqLatch (s : State) : (s.endDrain).reqLatch = s.reqLatch := rfl
@[simp] theorem State.endDrain_parseDirty (s : State) : (s.endDrain).parseDirty = s.parseDirty := rfl
@[simp] theorem State.endDrain_respBuf (s : State) : (s.endDrain).respBuf = s.respBuf := rfl
@[simp] theorem State.endDrain_txIndex (s : State) : (s.endDrain).txIndex = s.txIndex := rfl
@[simp] theorem State.endDrain_txFifo (s : State) : (s.endDrain).txFifo = s.txFifo := rfl
@[simp] theorem State.endDrain_txOut (s : State) : (s.endDrain).txOut = s.txOut := rfl
@[simp] theorem State.endDrain_dlCount (s : State) : (s.endDrain).dlCount = s.dlCount := rfl
@[simp] theorem State.endDrain_dlExpired (s : State) : (s.endDrain).dlExpired = s.dlExpired := rfl
@[simp] theorem State.endDrain_wdtEnabled (s : State) : (s.endDrain).wdtEnabled = s.wdtEnabled := rfl
@[simp] theorem State.endDrain_wdtCount (s : State) : (s.endDrain).wdtCount = s.wdtCount := rfl
@[simp] theorem State.endDrain_fault (s : State) : (s.endDrain).fault = s.fault := rfl
@[simp] theorem State.endDrain_lastResetCause (s : State) : (s.endDrain).lastResetCause = s.lastResetCause := rfl
@[simp] theorem State.endDrain_cfg (s : State) : (s.endDrain).cfg = s.cfg := rfl
@[simp] theorem State.endDrain_trace (s : State) : (s.endDrain).trace = s.trace := rfl
@[simp] theorem State.endDrain_tracePos (s : State) : (s.endDrain).tracePos = s.tracePos := rfl
@[simp] theorem State.endDrain_draws (s : State) : (s.endDrain).draws = s.draws := rfl

/-! ### closePacket -/

@[simp] theorem State.closePacket_rxBuf (s : State) : (s.closePacket).rxBuf = s.rxBuf := rfl
@[simp] theorem State.closePacket_cursor (s : State) : (s.closePacket).cursor = s.cursorAtExit := rfl
@[simp] theorem State.closePacket_ready (s : State) : (s.closePacket).ready = s.readyAtExit := rfl
@[simp] theorem State.closePacket_rxFifo (s : State) : (s.closePacket).rxFifo = s.rxFifo := rfl
@[simp] theorem State.closePacket_rxToutPending (s : State) : (s.closePacket).rxToutPending = s.rxToutPending := rfl
@[simp] theorem State.closePacket_rxOverflow (s : State) : (s.closePacket).rxOverflow = s.rxOverflow := rfl
@[simp] theorem State.closePacket_isrPc (s : State) : (s.closePacket).isrPc = s.isrPc := rfl
@[simp] theorem State.closePacket_isrTout (s : State) : (s.closePacket).isrTout = s.isrTout := rfl
@[simp] theorem State.closePacket_mainPc (s : State) : (s.closePacket).mainPc = s.mainPc := rfl
@[simp] theorem State.closePacket_cmdWord (s : State) : (s.closePacket).cmdWord = s.cmdWord := rfl
@[simp] theorem State.closePacket_ctZero (s : State) : (s.closePacket).ctZero = s.ctZero := rfl
@[simp] theorem State.closePacket_reqLatch (s : State) : (s.closePacket).reqLatch = s.reqLatch := rfl
@[simp] theorem State.closePacket_parseDirty (s : State) : (s.closePacket).parseDirty = s.parseDirty := rfl
@[simp] theorem State.closePacket_respBuf (s : State) : (s.closePacket).respBuf = s.respBuf := rfl
@[simp] theorem State.closePacket_txIndex (s : State) : (s.closePacket).txIndex = s.txIndex := rfl
@[simp] theorem State.closePacket_txFifo (s : State) : (s.closePacket).txFifo = s.txFifo := rfl
@[simp] theorem State.closePacket_txOut (s : State) : (s.closePacket).txOut = s.txOut := rfl
@[simp] theorem State.closePacket_dlCount (s : State) : (s.closePacket).dlCount = s.dlCount := rfl
@[simp] theorem State.closePacket_dlExpired (s : State) : (s.closePacket).dlExpired = s.dlExpired := rfl
@[simp] theorem State.closePacket_wdtEnabled (s : State) : (s.closePacket).wdtEnabled = s.wdtEnabled := rfl
@[simp] theorem State.closePacket_wdtCount (s : State) : (s.closePacket).wdtCount = s.wdtCount := rfl
@[simp] theorem State.closePacket_fault (s : State) : (s.closePacket).fault = s.fault := rfl
@[simp] theorem State.closePacket_lastResetCause (s : State) : (s.closePacket).lastResetCause = s.lastResetCause := rfl
@[simp] theorem State.closePacket_cfg (s : State) : (s.closePacket).cfg = s.cfg := rfl
@[simp] theorem State.closePacket_trace (s : State) : (s.closePacket).trace = s.trace := rfl
@[simp] theorem State.closePacket_tracePos (s : State) : (s.closePacket).tracePos = s.tracePos := rfl
@[simp] theorem State.closePacket_draws (s : State) : (s.closePacket).draws = s.draws := rfl

/-! ### latchCmd -/

@[simp] theorem State.latchCmd_rxBuf (s : State) (v : Word32) : (s.latchCmd v).rxBuf = s.rxBuf := rfl
@[simp] theorem State.latchCmd_cursor (s : State) (v : Word32) : (s.latchCmd v).cursor = s.cursor := rfl
@[simp] theorem State.latchCmd_ready (s : State) (v : Word32) : (s.latchCmd v).ready = s.ready := rfl
@[simp] theorem State.latchCmd_rxFifo (s : State) (v : Word32) : (s.latchCmd v).rxFifo = s.rxFifo := rfl
@[simp] theorem State.latchCmd_rxToutPending (s : State) (v : Word32) : (s.latchCmd v).rxToutPending = s.rxToutPending := rfl
@[simp] theorem State.latchCmd_rxOverflow (s : State) (v : Word32) : (s.latchCmd v).rxOverflow = s.rxOverflow := rfl
@[simp] theorem State.latchCmd_isrPc (s : State) (v : Word32) : (s.latchCmd v).isrPc = s.isrPc := rfl
@[simp] theorem State.latchCmd_isrTout (s : State) (v : Word32) : (s.latchCmd v).isrTout = s.isrTout := rfl
@[simp] theorem State.latchCmd_mainPc (s : State) (v : Word32) : (s.latchCmd v).mainPc = .cwDecide := rfl
@[simp] theorem State.latchCmd_cmdWord (s : State) (v : Word32) : (s.latchCmd v).cmdWord = some v := rfl
@[simp] theorem State.latchCmd_ctZero (s : State) (v : Word32) : (s.latchCmd v).ctZero = s.ctZero := rfl
@[simp] theorem State.latchCmd_reqLatch (s : State) (v : Word32) : (s.latchCmd v).reqLatch = s.reqLatch := rfl
@[simp] theorem State.latchCmd_parseDirty (s : State) (v : Word32) : (s.latchCmd v).parseDirty = s.parseDirty := rfl
@[simp] theorem State.latchCmd_respBuf (s : State) (v : Word32) : (s.latchCmd v).respBuf = s.respBuf := rfl
@[simp] theorem State.latchCmd_txIndex (s : State) (v : Word32) : (s.latchCmd v).txIndex = s.txIndex := rfl
@[simp] theorem State.latchCmd_txFifo (s : State) (v : Word32) : (s.latchCmd v).txFifo = s.txFifo := rfl
@[simp] theorem State.latchCmd_txOut (s : State) (v : Word32) : (s.latchCmd v).txOut = s.txOut := rfl
@[simp] theorem State.latchCmd_dlCount (s : State) (v : Word32) : (s.latchCmd v).dlCount = s.dlCount := rfl
@[simp] theorem State.latchCmd_dlExpired (s : State) (v : Word32) : (s.latchCmd v).dlExpired = s.dlExpired := rfl
@[simp] theorem State.latchCmd_wdtEnabled (s : State) (v : Word32) : (s.latchCmd v).wdtEnabled = s.wdtEnabled := rfl
@[simp] theorem State.latchCmd_wdtCount (s : State) (v : Word32) : (s.latchCmd v).wdtCount = s.wdtCount := rfl
@[simp] theorem State.latchCmd_fault (s : State) (v : Word32) : (s.latchCmd v).fault = s.fault := rfl
@[simp] theorem State.latchCmd_lastResetCause (s : State) (v : Word32) : (s.latchCmd v).lastResetCause = s.lastResetCause := rfl
@[simp] theorem State.latchCmd_cfg (s : State) (v : Word32) : (s.latchCmd v).cfg = s.cfg := rfl
@[simp] theorem State.latchCmd_trace (s : State) (v : Word32) : (s.latchCmd v).trace = s.trace := rfl
@[simp] theorem State.latchCmd_tracePos (s : State) (v : Word32) : (s.latchCmd v).tracePos = s.tracePos := rfl
@[simp] theorem State.latchCmd_draws (s : State) (v : Word32) : (s.latchCmd v).draws = s.draws := rfl

/-! ### openParse -/

@[simp] theorem State.openParse_rxBuf (s : State) (p : Packet) : (s.openParse p).rxBuf = s.rxBuf := rfl
@[simp] theorem State.openParse_cursor (s : State) (p : Packet) : (s.openParse p).cursor = s.cursor := rfl
@[simp] theorem State.openParse_ready (s : State) (p : Packet) : (s.openParse p).ready = s.ready := rfl
@[simp] theorem State.openParse_rxFifo (s : State) (p : Packet) : (s.openParse p).rxFifo = s.rxFifo := rfl
@[simp] theorem State.openParse_rxToutPending (s : State) (p : Packet) : (s.openParse p).rxToutPending = s.rxToutPending := rfl
@[simp] theorem State.openParse_rxOverflow (s : State) (p : Packet) : (s.openParse p).rxOverflow = s.rxOverflow := rfl
@[simp] theorem State.openParse_isrPc (s : State) (p : Packet) : (s.openParse p).isrPc = s.isrPc := rfl
@[simp] theorem State.openParse_isrTout (s : State) (p : Packet) : (s.openParse p).isrTout = s.isrTout := rfl
@[simp] theorem State.openParse_mainPc (s : State) (p : Packet) : (s.openParse p).mainPc = .sParseEnd := rfl
@[simp] theorem State.openParse_cmdWord (s : State) (p : Packet) : (s.openParse p).cmdWord = s.cmdWord := rfl
@[simp] theorem State.openParse_ctZero (s : State) (p : Packet) : (s.openParse p).ctZero = s.ctZero := rfl
@[simp] theorem State.openParse_reqLatch (s : State) (p : Packet) : (s.openParse p).reqLatch = Memory.ofPacket p := rfl
@[simp] theorem State.openParse_parseDirty (s : State) (p : Packet) : (s.openParse p).parseDirty = false := rfl
@[simp] theorem State.openParse_respBuf (s : State) (p : Packet) : (s.openParse p).respBuf = s.respBuf := rfl
@[simp] theorem State.openParse_txIndex (s : State) (p : Packet) : (s.openParse p).txIndex = s.txIndex := rfl
@[simp] theorem State.openParse_txFifo (s : State) (p : Packet) : (s.openParse p).txFifo = s.txFifo := rfl
@[simp] theorem State.openParse_txOut (s : State) (p : Packet) : (s.openParse p).txOut = s.txOut := rfl
@[simp] theorem State.openParse_dlCount (s : State) (p : Packet) : (s.openParse p).dlCount = s.dlCount := rfl
@[simp] theorem State.openParse_dlExpired (s : State) (p : Packet) : (s.openParse p).dlExpired = s.dlExpired := rfl
@[simp] theorem State.openParse_wdtEnabled (s : State) (p : Packet) : (s.openParse p).wdtEnabled = s.wdtEnabled := rfl
@[simp] theorem State.openParse_wdtCount (s : State) (p : Packet) : (s.openParse p).wdtCount = s.wdtCount := rfl
@[simp] theorem State.openParse_fault (s : State) (p : Packet) : (s.openParse p).fault = s.fault := rfl
@[simp] theorem State.openParse_lastResetCause (s : State) (p : Packet) : (s.openParse p).lastResetCause = s.lastResetCause := rfl
@[simp] theorem State.openParse_cfg (s : State) (p : Packet) : (s.openParse p).cfg = s.cfg := rfl
@[simp] theorem State.openParse_trace (s : State) (p : Packet) : (s.openParse p).trace = s.trace := rfl
@[simp] theorem State.openParse_tracePos (s : State) (p : Packet) : (s.openParse p).tracePos = s.tracePos := rfl
@[simp] theorem State.openParse_draws (s : State) (p : Packet) : (s.openParse p).draws = s.draws := rfl

/-! ### closeParse -/

@[simp] theorem State.closeParse_rxBuf (s : State) : (s.closeParse).rxBuf = s.rxBuf := rfl
@[simp] theorem State.closeParse_cursor (s : State) : (s.closeParse).cursor = s.cursor := rfl
@[simp] theorem State.closeParse_ready (s : State) : (s.closeParse).ready = s.ready := rfl
@[simp] theorem State.closeParse_rxFifo (s : State) : (s.closeParse).rxFifo = s.rxFifo := rfl
@[simp] theorem State.closeParse_rxToutPending (s : State) : (s.closeParse).rxToutPending = s.rxToutPending := rfl
@[simp] theorem State.closeParse_rxOverflow (s : State) : (s.closeParse).rxOverflow = s.rxOverflow := rfl
@[simp] theorem State.closeParse_isrPc (s : State) : (s.closeParse).isrPc = s.isrPc := rfl
@[simp] theorem State.closeParse_isrTout (s : State) : (s.closeParse).isrTout = s.isrTout := rfl
@[simp] theorem State.closeParse_mainPc (s : State) : (s.closeParse).mainPc = .sTx := rfl
@[simp] theorem State.closeParse_cmdWord (s : State) : (s.closeParse).cmdWord = s.cmdWord := rfl
@[simp] theorem State.closeParse_ctZero (s : State) : (s.closeParse).ctZero = s.ctZero := rfl
@[simp] theorem State.closeParse_reqLatch (s : State) : (s.closeParse).reqLatch = s.reqLatch := rfl
@[simp] theorem State.closeParse_parseDirty (s : State) : (s.closeParse).parseDirty = false := rfl
@[simp] theorem State.closeParse_respBuf (s : State) : (s.closeParse).respBuf = Memory.ofPacket s.response := rfl
@[simp] theorem State.closeParse_txIndex (s : State) : (s.closeParse).txIndex = 0 := rfl
@[simp] theorem State.closeParse_txFifo (s : State) : (s.closeParse).txFifo = s.txFifo := rfl
@[simp] theorem State.closeParse_txOut (s : State) : (s.closeParse).txOut = s.txOut := rfl
@[simp] theorem State.closeParse_dlCount (s : State) : (s.closeParse).dlCount = s.dlCount := rfl
@[simp] theorem State.closeParse_dlExpired (s : State) : (s.closeParse).dlExpired = s.dlExpired := rfl
@[simp] theorem State.closeParse_wdtEnabled (s : State) : (s.closeParse).wdtEnabled = s.wdtEnabled := rfl
@[simp] theorem State.closeParse_wdtCount (s : State) : (s.closeParse).wdtCount = s.wdtCount := rfl
@[simp] theorem State.closeParse_fault (s : State) : (s.closeParse).fault = s.fault := rfl
@[simp] theorem State.closeParse_lastResetCause (s : State) : (s.closeParse).lastResetCause = s.lastResetCause := rfl
@[simp] theorem State.closeParse_cfg (s : State) : (s.closeParse).cfg = s.cfg := rfl
@[simp] theorem State.closeParse_trace (s : State) : (s.closeParse).trace = s.trace := rfl
@[simp] theorem State.closeParse_tracePos (s : State) : (s.closeParse).tracePos = s.tracePos := rfl
@[simp] theorem State.closeParse_draws (s : State) : (s.closeParse).draws = s.drawsAfterResponse := rfl

/-! ### startWdt -/

@[simp] theorem State.startWdt_rxBuf (s : State) : (s.startWdt).rxBuf = s.rxBuf := rfl
@[simp] theorem State.startWdt_cursor (s : State) : (s.startWdt).cursor = s.cursor := rfl
@[simp] theorem State.startWdt_ready (s : State) : (s.startWdt).ready = s.ready := rfl
@[simp] theorem State.startWdt_rxFifo (s : State) : (s.startWdt).rxFifo = s.rxFifo := rfl
@[simp] theorem State.startWdt_rxToutPending (s : State) : (s.startWdt).rxToutPending = s.rxToutPending := rfl
@[simp] theorem State.startWdt_rxOverflow (s : State) : (s.startWdt).rxOverflow = s.rxOverflow := rfl
@[simp] theorem State.startWdt_isrPc (s : State) : (s.startWdt).isrPc = s.isrPc := rfl
@[simp] theorem State.startWdt_isrTout (s : State) : (s.startWdt).isrTout = s.isrTout := rfl
@[simp] theorem State.startWdt_mainPc (s : State) : (s.startWdt).mainPc = s.mainPc := rfl
@[simp] theorem State.startWdt_cmdWord (s : State) : (s.startWdt).cmdWord = s.cmdWord := rfl
@[simp] theorem State.startWdt_ctZero (s : State) : (s.startWdt).ctZero = s.ctZero := rfl
@[simp] theorem State.startWdt_reqLatch (s : State) : (s.startWdt).reqLatch = s.reqLatch := rfl
@[simp] theorem State.startWdt_parseDirty (s : State) : (s.startWdt).parseDirty = s.parseDirty := rfl
@[simp] theorem State.startWdt_respBuf (s : State) : (s.startWdt).respBuf = s.respBuf := rfl
@[simp] theorem State.startWdt_txIndex (s : State) : (s.startWdt).txIndex = s.txIndex := rfl
@[simp] theorem State.startWdt_txFifo (s : State) : (s.startWdt).txFifo = s.txFifo := rfl
@[simp] theorem State.startWdt_txOut (s : State) : (s.startWdt).txOut = s.txOut := rfl
@[simp] theorem State.startWdt_dlCount (s : State) : (s.startWdt).dlCount = s.dlCount := rfl
@[simp] theorem State.startWdt_dlExpired (s : State) : (s.startWdt).dlExpired = s.dlExpired := rfl
@[simp] theorem State.startWdt_wdtEnabled (s : State) : (s.startWdt).wdtEnabled = s.wdtEnabledAtAccept := rfl
@[simp] theorem State.startWdt_wdtCount (s : State) : (s.startWdt).wdtCount = s.wdtCountAtAccept := rfl
@[simp] theorem State.startWdt_fault (s : State) : (s.startWdt).fault = s.fault := rfl
@[simp] theorem State.startWdt_lastResetCause (s : State) : (s.startWdt).lastResetCause = s.lastResetCause := rfl
@[simp] theorem State.startWdt_cfg (s : State) : (s.startWdt).cfg = s.cfg := rfl
@[simp] theorem State.startWdt_trace (s : State) : (s.startWdt).trace = s.trace := rfl
@[simp] theorem State.startWdt_tracePos (s : State) : (s.startWdt).tracePos = s.tracePos := rfl
@[simp] theorem State.startWdt_draws (s : State) : (s.startWdt).draws = s.draws := rfl

/-! ### pushTx -/

@[simp] theorem State.pushTx_rxBuf (s : State) (b : Byte) : (s.pushTx b).rxBuf = s.rxBuf := rfl
@[simp] theorem State.pushTx_cursor (s : State) (b : Byte) : (s.pushTx b).cursor = s.cursor := rfl
@[simp] theorem State.pushTx_ready (s : State) (b : Byte) : (s.pushTx b).ready = s.ready := rfl
@[simp] theorem State.pushTx_rxFifo (s : State) (b : Byte) : (s.pushTx b).rxFifo = s.rxFifo := rfl
@[simp] theorem State.pushTx_rxToutPending (s : State) (b : Byte) : (s.pushTx b).rxToutPending = s.rxToutPending := rfl
@[simp] theorem State.pushTx_rxOverflow (s : State) (b : Byte) : (s.pushTx b).rxOverflow = s.rxOverflow := rfl
@[simp] theorem State.pushTx_isrPc (s : State) (b : Byte) : (s.pushTx b).isrPc = s.isrPc := rfl
@[simp] theorem State.pushTx_isrTout (s : State) (b : Byte) : (s.pushTx b).isrTout = s.isrTout := rfl
@[simp] theorem State.pushTx_mainPc (s : State) (b : Byte) : (s.pushTx b).mainPc = s.mainPcAfterTx := rfl
@[simp] theorem State.pushTx_cmdWord (s : State) (b : Byte) : (s.pushTx b).cmdWord = s.cmdWord := rfl
@[simp] theorem State.pushTx_ctZero (s : State) (b : Byte) : (s.pushTx b).ctZero = s.ctZero := rfl
@[simp] theorem State.pushTx_reqLatch (s : State) (b : Byte) : (s.pushTx b).reqLatch = s.reqLatch := rfl
@[simp] theorem State.pushTx_parseDirty (s : State) (b : Byte) : (s.pushTx b).parseDirty = s.parseDirty := rfl
@[simp] theorem State.pushTx_respBuf (s : State) (b : Byte) : (s.pushTx b).respBuf = s.respBuf := rfl
@[simp] theorem State.pushTx_txIndex (s : State) (b : Byte) : (s.pushTx b).txIndex = s.txIndex + 1 := rfl
@[simp] theorem State.pushTx_txFifo (s : State) (b : Byte) : (s.pushTx b).txFifo = s.txFifo ++ [b] := rfl
@[simp] theorem State.pushTx_txOut (s : State) (b : Byte) : (s.pushTx b).txOut = s.txOut := rfl
@[simp] theorem State.pushTx_dlCount (s : State) (b : Byte) : (s.pushTx b).dlCount = s.dlCount := rfl
@[simp] theorem State.pushTx_dlExpired (s : State) (b : Byte) : (s.pushTx b).dlExpired = s.dlExpired := rfl
@[simp] theorem State.pushTx_wdtEnabled (s : State) (b : Byte) : (s.pushTx b).wdtEnabled = s.wdtEnabled := rfl
@[simp] theorem State.pushTx_wdtCount (s : State) (b : Byte) : (s.pushTx b).wdtCount = s.wdtCount := rfl
@[simp] theorem State.pushTx_fault (s : State) (b : Byte) : (s.pushTx b).fault = s.fault := rfl
@[simp] theorem State.pushTx_lastResetCause (s : State) (b : Byte) : (s.pushTx b).lastResetCause = s.lastResetCause := rfl
@[simp] theorem State.pushTx_cfg (s : State) (b : Byte) : (s.pushTx b).cfg = s.cfg := rfl
@[simp] theorem State.pushTx_trace (s : State) (b : Byte) : (s.pushTx b).trace = s.trace := rfl
@[simp] theorem State.pushTx_tracePos (s : State) (b : Byte) : (s.pushTx b).tracePos = s.tracePos := rfl
@[simp] theorem State.pushTx_draws (s : State) (b : Byte) : (s.pushTx b).draws = s.draws := rfl

/-! ### countWdt -/

@[simp] theorem State.countWdt_rxBuf (s : State) : (s.countWdt).rxBuf = s.rxBuf := rfl
@[simp] theorem State.countWdt_cursor (s : State) : (s.countWdt).cursor = s.cursor := rfl
@[simp] theorem State.countWdt_ready (s : State) : (s.countWdt).ready = s.ready := rfl
@[simp] theorem State.countWdt_rxFifo (s : State) : (s.countWdt).rxFifo = s.rxFifo := rfl
@[simp] theorem State.countWdt_rxToutPending (s : State) : (s.countWdt).rxToutPending = s.rxToutPending := rfl
@[simp] theorem State.countWdt_rxOverflow (s : State) : (s.countWdt).rxOverflow = s.rxOverflow := rfl
@[simp] theorem State.countWdt_isrPc (s : State) : (s.countWdt).isrPc = s.isrPc := rfl
@[simp] theorem State.countWdt_isrTout (s : State) : (s.countWdt).isrTout = s.isrTout := rfl
@[simp] theorem State.countWdt_mainPc (s : State) : (s.countWdt).mainPc = s.mainPc := rfl
@[simp] theorem State.countWdt_cmdWord (s : State) : (s.countWdt).cmdWord = s.cmdWord := rfl
@[simp] theorem State.countWdt_ctZero (s : State) : (s.countWdt).ctZero = s.ctZero := rfl
@[simp] theorem State.countWdt_reqLatch (s : State) : (s.countWdt).reqLatch = s.reqLatch := rfl
@[simp] theorem State.countWdt_parseDirty (s : State) : (s.countWdt).parseDirty = s.parseDirty := rfl
@[simp] theorem State.countWdt_respBuf (s : State) : (s.countWdt).respBuf = s.respBuf := rfl
@[simp] theorem State.countWdt_txIndex (s : State) : (s.countWdt).txIndex = s.txIndex := rfl
@[simp] theorem State.countWdt_txFifo (s : State) : (s.countWdt).txFifo = s.txFifo := rfl
@[simp] theorem State.countWdt_txOut (s : State) : (s.countWdt).txOut = s.txOut := rfl
@[simp] theorem State.countWdt_dlCount (s : State) : (s.countWdt).dlCount = s.dlCount := rfl
@[simp] theorem State.countWdt_dlExpired (s : State) : (s.countWdt).dlExpired = s.dlExpired := rfl
@[simp] theorem State.countWdt_wdtEnabled (s : State) : (s.countWdt).wdtEnabled = s.wdtEnabled := rfl
@[simp] theorem State.countWdt_wdtCount (s : State) : (s.countWdt).wdtCount = s.wdtCountAfterTick := rfl
@[simp] theorem State.countWdt_fault (s : State) : (s.countWdt).fault = s.fault := rfl
@[simp] theorem State.countWdt_lastResetCause (s : State) : (s.countWdt).lastResetCause = s.lastResetCause := rfl
@[simp] theorem State.countWdt_cfg (s : State) : (s.countWdt).cfg = s.cfg := rfl
@[simp] theorem State.countWdt_trace (s : State) : (s.countWdt).trace = s.trace := rfl
@[simp] theorem State.countWdt_tracePos (s : State) : (s.countWdt).tracePos = s.tracePos := rfl
@[simp] theorem State.countWdt_draws (s : State) : (s.countWdt).draws = s.drawsAfterTick := rfl

/-! ### countDeadline -/

@[simp] theorem State.countDeadline_rxBuf (s : State) : (s.countDeadline).rxBuf = s.rxBuf := rfl
@[simp] theorem State.countDeadline_cursor (s : State) : (s.countDeadline).cursor = s.cursor := rfl
@[simp] theorem State.countDeadline_ready (s : State) : (s.countDeadline).ready = s.ready := rfl
@[simp] theorem State.countDeadline_rxFifo (s : State) : (s.countDeadline).rxFifo = s.rxFifo := rfl
@[simp] theorem State.countDeadline_rxToutPending (s : State) : (s.countDeadline).rxToutPending = s.rxToutPending := rfl
@[simp] theorem State.countDeadline_rxOverflow (s : State) : (s.countDeadline).rxOverflow = s.rxOverflow := rfl
@[simp] theorem State.countDeadline_isrPc (s : State) : (s.countDeadline).isrPc = s.isrPc := rfl
@[simp] theorem State.countDeadline_isrTout (s : State) : (s.countDeadline).isrTout = s.isrTout := rfl
@[simp] theorem State.countDeadline_mainPc (s : State) : (s.countDeadline).mainPc = s.mainPc := rfl
@[simp] theorem State.countDeadline_cmdWord (s : State) : (s.countDeadline).cmdWord = s.cmdWord := rfl
@[simp] theorem State.countDeadline_ctZero (s : State) : (s.countDeadline).ctZero = s.ctZero := rfl
@[simp] theorem State.countDeadline_reqLatch (s : State) : (s.countDeadline).reqLatch = s.reqLatch := rfl
@[simp] theorem State.countDeadline_parseDirty (s : State) : (s.countDeadline).parseDirty = s.parseDirty := rfl
@[simp] theorem State.countDeadline_respBuf (s : State) : (s.countDeadline).respBuf = s.respBuf := rfl
@[simp] theorem State.countDeadline_txIndex (s : State) : (s.countDeadline).txIndex = s.txIndex := rfl
@[simp] theorem State.countDeadline_txFifo (s : State) : (s.countDeadline).txFifo = s.txFifo := rfl
@[simp] theorem State.countDeadline_txOut (s : State) : (s.countDeadline).txOut = s.txOut := rfl
@[simp] theorem State.countDeadline_dlCount (s : State) : (s.countDeadline).dlCount = s.dlCountAfterTick := rfl
@[simp] theorem State.countDeadline_dlExpired (s : State) : (s.countDeadline).dlExpired = s.dlExpiredAfterTick := rfl
@[simp] theorem State.countDeadline_wdtEnabled (s : State) : (s.countDeadline).wdtEnabled = s.wdtEnabled := rfl
@[simp] theorem State.countDeadline_wdtCount (s : State) : (s.countDeadline).wdtCount = s.wdtCount := rfl
@[simp] theorem State.countDeadline_fault (s : State) : (s.countDeadline).fault = s.fault := rfl
@[simp] theorem State.countDeadline_lastResetCause (s : State) : (s.countDeadline).lastResetCause = s.lastResetCause := rfl
@[simp] theorem State.countDeadline_cfg (s : State) : (s.countDeadline).cfg = s.cfg := rfl
@[simp] theorem State.countDeadline_trace (s : State) : (s.countDeadline).trace = s.trace := rfl
@[simp] theorem State.countDeadline_tracePos (s : State) : (s.countDeadline).tracePos = s.tracePos := rfl
@[simp] theorem State.countDeadline_draws (s : State) : (s.countDeadline).draws = s.draws := rfl

/-! ### doReset -/

@[simp] theorem State.doReset_rxBuf (s : State) (c : ResetCause) : (s.doReset c).rxBuf = [] := rfl
@[simp] theorem State.doReset_cursor (s : State) (c : ResetCause) : (s.doReset c).cursor = 0 := rfl
@[simp] theorem State.doReset_ready (s : State) (c : ResetCause) : (s.doReset c).ready = false := rfl
@[simp] theorem State.doReset_rxFifo (s : State) (c : ResetCause) : (s.doReset c).rxFifo = [] := rfl
@[simp] theorem State.doReset_rxToutPending (s : State) (c : ResetCause) : (s.doReset c).rxToutPending = false := rfl
@[simp] theorem State.doReset_rxOverflow (s : State) (c : ResetCause) : (s.doReset c).rxOverflow = false := rfl
@[simp] theorem State.doReset_isrPc (s : State) (c : ResetCause) : (s.doReset c).isrPc = .idle := rfl
@[simp] theorem State.doReset_isrTout (s : State) (c : ResetCause) : (s.doReset c).isrTout = false := rfl
@[simp] theorem State.doReset_mainPc (s : State) (c : ResetCause) : (s.doReset c).mainPc = .cwTestReady := rfl
@[simp] theorem State.doReset_cmdWord (s : State) (c : ResetCause) : (s.doReset c).cmdWord = none := rfl
@[simp] theorem State.doReset_ctZero (s : State) (c : ResetCause) : (s.doReset c).ctZero = false := rfl
@[simp] theorem State.doReset_reqLatch (s : State) (c : ResetCause) : (s.doReset c).reqLatch = [] := rfl
@[simp] theorem State.doReset_parseDirty (s : State) (c : ResetCause) : (s.doReset c).parseDirty = false := rfl
@[simp] theorem State.doReset_respBuf (s : State) (c : ResetCause) : (s.doReset c).respBuf = [] := rfl
@[simp] theorem State.doReset_txIndex (s : State) (c : ResetCause) : (s.doReset c).txIndex = 0 := rfl
@[simp] theorem State.doReset_txFifo (s : State) (c : ResetCause) : (s.doReset c).txFifo = [] := rfl
@[simp] theorem State.doReset_txOut (s : State) (c : ResetCause) : (s.doReset c).txOut = if c = .powerOn then [] else s.txOut := rfl
@[simp] theorem State.doReset_dlCount (s : State) (c : ResetCause) : (s.doReset c).dlCount = s.cfg.connectTimeoutTicks := rfl
@[simp] theorem State.doReset_dlExpired (s : State) (c : ResetCause) : (s.doReset c).dlExpired = false := rfl
@[simp] theorem State.doReset_wdtEnabled (s : State) (c : ResetCause) : (s.doReset c).wdtEnabled = decide (s.cfg.wdtMode = .atReset) := rfl
@[simp] theorem State.doReset_wdtCount (s : State) (c : ResetCause) : (s.doReset c).wdtCount = s.cfg.wdtTimeoutTicks := rfl
@[simp] theorem State.doReset_fault (s : State) (c : ResetCause) : (s.doReset c).fault = none := rfl
@[simp] theorem State.doReset_lastResetCause (s : State) (c : ResetCause) : (s.doReset c).lastResetCause = c := rfl
@[simp] theorem State.doReset_cfg (s : State) (c : ResetCause) : (s.doReset c).cfg = s.cfg := rfl
@[simp] theorem State.doReset_trace (s : State) (c : ResetCause) : (s.doReset c).trace = s.trace := rfl
@[simp] theorem State.doReset_tracePos (s : State) (c : ResetCause) : (s.doReset c).tracePos = s.tracePos := rfl
@[simp] theorem State.doReset_draws (s : State) (c : ResetCause) : (s.doReset c).draws = s.draws := rfl

end Sys2Proof.Machine
end

