-- ==== Sys2Proof/Laws/Flags.lean ====
section
/-! SUPPORT. What the conditions and the computed values say, in the numbers the spec uses. -/

namespace Sys2Proof.Machine

/-- The cursor and the transmit index step by one without wrapping while below 64 (00_scope R11). -/
theorem index_succ_toNat {c : BitVec 7} (h : c.toNat < pktSize) : (c + 1).toNat = c.toNat + 1 := by
  rw [BitVec.toNat_add]
  simp only [pktSize] at h
  simp; omega

theorem index_eq_zero_iff {c : BitVec 7} : c = 0 ↔ c.toNat = 0 :=
  ⟨fun h => by simp [h], fun h => BitVec.eq_of_toNat_eq (by simpa using h)⟩

theorem count_eq_zero_iff {c : Word32} : c = 0 ↔ c.toNat = 0 :=
  ⟨fun h => by simp [h], fun h => BitVec.eq_of_toNat_eq (by simpa using h)⟩

theorem count_eq_one_iff {c : Word32} : c = 1 ↔ c.toNat = 1 :=
  ⟨fun h => by simp [h], fun h => BitVec.eq_of_toNat_eq (by simpa using h)⟩

/-- A count above 0 goes down by one. -/
theorem count_pred_toNat {c : Word32} (h : c ≠ 0) : (c - 1).toNat = c.toNat - 1 := by
  rw [Ne, count_eq_zero_iff] at h
  bv_omega

@[simp] theorem State.rxHasRoom_iff (s : State) : s.rxHasRoom = true ↔ s.rxFifo.length < s.cfg.rxFifoDepth := by
  simp [State.rxHasRoom]

@[simp] theorem State.txFull_iff (s : State) : s.txFull = true ↔ s.txFifo.length = s.cfg.txFifoDepth := by
  simp [State.txFull]

@[simp] theorem State.packetFull_iff (s : State) : s.packetFull = true ↔ s.cursor.toNat = 64 := by
  simp [State.packetFull]

@[simp] theorem State.peekReady_iff (s : State) : s.peekReady = true ↔ 4 ≤ s.cursor.toNat := by
  simp [State.peekReady]

@[simp] theorem State.flushDue_iff (s : State) : s.flushDue = true ↔ s.isrTout = true ∧ 0 < s.cursor.toNat := by
  simp [State.flushDue]

@[simp] theorem State.cmdIsConnect_iff (s : State) : s.cmdIsConnect = true ↔ s.cmdWord = some s.cfg.connectCode := by
  simp [State.cmdIsConnect]

@[simp] theorem State.wdtExpires_iff (s : State) : s.wdtExpires = true ↔ s.wdtEnabled = true ∧ s.wdtCount.toNat = 1 := by
  simp [State.wdtExpires, ← count_eq_one_iff]

/-- The deadline count goes down by one, and stays at 0. -/
@[simp] theorem State.dlCountAfterTick_toNat (s : State) : s.dlCountAfterTick.toNat = s.dlCount.toNat - 1 := by
  simp only [State.dlCountAfterTick]
  split
  · rename_i h; simp [h]
  · exact count_pred_toNat ‹_›

/-- The deadline expires on the tick that finds its count at 1, and stays expired. -/
@[simp] theorem State.dlExpiredAfterTick_iff (s : State) :
    s.dlExpiredAfterTick = true ↔ s.dlExpired = true ∨ s.dlCount.toNat = 1 := by
  simp only [State.dlExpiredAfterTick, count_eq_one_iff]
  split <;> simp_all

/-- A running watchdog with a count above 0 goes down by one. -/
theorem State.wdtCountAfterTick_running {s : State} (h : s.wdtEnabled = true) (h0 : s.wdtCount ≠ 0) :
    s.wdtCountAfterTick.toNat = s.wdtCount.toNat - 1 := by
  simp only [State.wdtCountAfterTick, h, if_true, State.wdtCountDown, if_neg h0, count_pred_toNat h0]

/-- A stopped watchdog keeps its count. -/
theorem State.wdtCountAfterTick_stopped {s : State} (h : s.wdtEnabled = false) : s.wdtCountAfterTick = s.wdtCount := by
  simp [State.wdtCountAfterTick, h]

/-- A tick draws nothing unless a running watchdog stands at 0. -/
theorem State.drawsAfterTick_of_count {s : State} (h : s.wdtEnabled = true → s.wdtCount ≠ 0) :
    s.drawsAfterTick = s.draws := by
  simp only [State.drawsAfterTick]
  split
  · rename_i he; rw [if_neg (h he)]
  · rfl

/-- Counting the watchdog leaves the deadline's values as they are. -/
@[simp] theorem State.dlCountAfterTick_countWdt (s : State) : s.countWdt.dlCountAfterTick = s.dlCountAfterTick := rfl

@[simp] theorem State.dlExpiredAfterTick_countWdt (s : State) : s.countWdt.dlExpiredAfterTick = s.dlExpiredAfterTick := rfl

/-- The accept's target under each tail policy. -/
theorem State.acceptTarget_eq (s : State) :
    s.acceptTarget = if s.cfg.connectTailPolicy = .discard then .ctPollCursor else .sPoll := by
  simp only [State.acceptTarget]
  cases s.cfg.connectTailPolicy <;> simp

end Sys2Proof.Machine
end

