-- ==== Sys2Proof/Laws/Exec.lean ====
section
/-! SUPPORT. One inversion lemma per step: when its meaning answers a next state, and which one. -/

namespace Sys2Proof.Machine

theorem execRxByte_eq_next {b : Byte} {s t : State} :
    execRxByte b s = .next t ↔ s.Running ∧
      t = if s.rxHasRoom then { s with rxFifo := s.rxFifo ++ [b] } else { s with rxOverflow := true } := by
  simp only [execRxByte, takeIf_next_eq_next, State.active_iff]

theorem execRxSilence_eq_next {s t : State} :
    execRxSilence s = .next t ↔ s.Running ∧ t = { s with rxToutPending := true } := by
  simp only [execRxSilence, takeIf_next_eq_next, State.active_iff]

theorem execTxTake_eq_next {s t : State} :
    execTxTake s = .next t ↔ s.Running ∧ ∃ b rest, s.txFifo = b :: rest ∧
      t = { s with txFifo := rest, txOut := s.txOut ++ [b] } := by
  simp only [execTxTake, takeIf_eq_next, State.active_iff]
  cases s.txFifo <;> simp [eq_comm]

theorem execTick_eq_next {s t : State} :
    execTick s = .next t ↔ s.Running ∧
      t = if s.wdtExpires then s.doReset .watchdog else s.countWdt.countDeadline := by
  simp only [execTick, takeIf_next_eq_next, State.active_iff]

theorem execExtReset_eq_next {s t : State} :
    execExtReset s = .next t ↔ s.Running ∧ t = s.doReset .external := by
  simp only [execExtReset, takeIf_next_eq_next, State.active_iff]

theorem execIsrEntry_eq_next {s t : State} :
    execIsrEntry s = .next t ↔
      (s.Running ∧ s.isrPc = .idle) ∧ (s.rxFifo ≠ [] ∨ s.rxToutPending = true) ∧ t = s.enterIsr := by
  simp only [execIsrEntry, takeIf_next_eq_next, Bool.and_eq_true, State.isrAt_iff, State.rxRequested_iff, and_assoc]

theorem execIsrDrain_eq_next {s t : State} :
    execIsrDrain s = .next t ↔ (s.Running ∧ s.isrPc = .drain) ∧
      ((∃ b rest, s.rxFifo = b :: rest ∧ s.cursor.toNat < pktSize ∧ t = s.drainByte b rest) ∨
        ((s.rxFifo = [] ∨ pktSize ≤ s.cursor.toNat) ∧ t = s.endDrain)) := by
  simp only [execIsrDrain, takeIf_next_eq_next, State.isrAt_iff]
  refine and_congr_right fun _ => ?_
  cases s.rxFifo with
  | nil => simp
  | cons b rest =>
    by_cases h : s.cursor.toNat < pktSize
    · simp [h, Nat.not_le.2 h]
    · simp [h, Nat.not_lt.1 h]

theorem execIsrExit_eq_next {s t : State} :
    execIsrExit s = .next t ↔ (s.Running ∧ s.isrPc = .exit) ∧ t = s.closePacket.leaveIsr := by
  simp only [execIsrExit, takeIf_next_eq_next, State.isrAt_iff]

theorem execCwTestReady_eq_next {s t : State} :
    execCwTestReady s = .next t ↔ s.AtMain .cwTestReady ∧
      t = s.goMain (if s.ready then .cwRead else .cwTestCursor) := by
  simp [execCwTestReady, takeIf_next_eq_next]

theorem execCwTestCursor_eq_next {s t : State} :
    execCwTestCursor s = .next t ↔ s.AtMain .cwTestCursor ∧
      t = s.goMain (if s.peekReady then .cwRead else .cwDeadline) := by
  simp [execCwTestCursor, takeIf_next_eq_next]

theorem execCwRead_eq_next {s t : State} :
    execCwRead s = .next t ↔ s.AtMain .cwRead ∧
      ((∃ bs, s.memRead .rxBuf 0 peekBytes = .ok bs ∧ t = s.latchCmd (le32 bs)) ∨
        (∃ r, s.memRead .rxBuf 0 peekBytes = .error r ∧ t = s.raiseFault r)) := by
  simp only [execCwRead, takeIf_next_eq_next, State.mainAt_iff s .cwRead (by decide)]
  refine and_congr_right fun _ => ?_
  cases s.memRead .rxBuf 0 peekBytes <;> simp

theorem execCwDecide_eq_next {s t : State} :
    execCwDecide s = .next t ↔ s.AtMain .cwDecide ∧
      t = if s.cmdIsConnect then s.startWdt.goMain s.acceptTarget else s.goMain .cwRejectReady := by
  simp only [execCwDecide, takeIf_next_eq_next, State.mainAt_iff s .cwDecide (by decide)]

theorem execCwRejectReady_eq_next {s t : State} :
    execCwRejectReady s = .next t ↔ s.AtMain .cwRejectReady ∧
      t = { s with ready := false, mainPc := .cwRejectCursor } := by
  simp [execCwRejectReady, takeIf_next_eq_next]

theorem execCwRejectCursor_eq_next {s t : State} :
    execCwRejectCursor s = .next t ↔ s.AtMain .cwRejectCursor ∧ t = { s with cursor := 0, mainPc := .cwDeadline } := by
  simp only [execCwRejectCursor, takeIf_next_eq_next, State.mainAt_iff s .cwRejectCursor (by decide)]

theorem execCwDeadline_eq_next {s t : State} :
    execCwDeadline s = .next t ↔ s.AtMain .cwDeadline ∧
      t = s.goMain (if s.dlExpired then .booted else .cwTestReady) := by
  simp [execCwDeadline, takeIf_next_eq_next]

theorem execCtPollCursor_eq_next {s t : State} :
    execCtPollCursor s = .next t ↔ s.AtMain .ctPollCursor ∧
      t = { s with ctZero := s.cursorZero, mainPc := .ctPollReady } := by
  simp [execCtPollCursor, takeIf_next_eq_next]

theorem execCtPollReady_eq_next {s t : State} :
    execCtPollReady s = .next t ↔ s.AtMain .ctPollReady ∧
      t = s.goMain (if s.ready then .ctClear else if s.ctZero then .sPoll else .ctPollCursor) := by
  simp [execCtPollReady, takeIf_next_eq_next]

theorem execCtClear_eq_next {s t : State} :
    execCtClear s = .next t ↔ s.AtMain .ctClear ∧ t = { s with ready := false, mainPc := .sPoll } := by
  simp [execCtClear, takeIf_next_eq_next]

theorem execSPoll_eq_next {s t : State} :
    execSPoll s = .next t ↔ s.AtMain .sPoll ∧ t = if s.ready then s.goMain .sKick else s := by
  simp only [execSPoll, takeIf_next_eq_next, State.mainAt_iff s .sPoll (by decide)]

theorem execSKick_eq_next {s t : State} :
    execSKick s = .next t ↔ s.AtMain .sKick ∧ t = { s with wdtCount := s.wdtCountAfterKick, mainPc := .sClear } := by
  simp [execSKick, takeIf_next_eq_next]

theorem execSClear_eq_next {s t : State} :
    execSClear s = .next t ↔ s.AtMain .sClear ∧ t = { s with ready := false, mainPc := .sParseBegin } := by
  simp [execSClear, takeIf_next_eq_next]

theorem execSParseBegin_eq_next {s t : State} :
    execSParseBegin s = .next t ↔ s.AtMain .sParseBegin ∧
      ((∃ p, s.memRead .rxBuf 0 pktSize = .ok p ∧ t = s.openParse p) ∨
        (∃ r, s.memRead .rxBuf 0 pktSize = .error r ∧ t = s.raiseFault r)) := by
  simp only [execSParseBegin, takeIf_next_eq_next, State.mainAt_iff s .sParseBegin (by decide)]
  refine and_congr_right fun _ => ?_
  cases s.memRead .rxBuf 0 pktSize <;> simp

theorem execSParseEnd_eq_next {s t : State} :
    execSParseEnd s = .next t ↔ s.AtMain .sParseEnd ∧ t = s.closeParse := by
  simp only [execSParseEnd, takeIf_next_eq_next, State.mainAt_iff s .sParseEnd (by decide)]

theorem execSTx_eq_next {s t : State} :
    execSTx s = .next t ↔ s.AtMain .sTx ∧
      ((s.txFifo.length = s.cfg.txFifoDepth ∧ t = s) ∨
        (s.txFifo.length ≠ s.cfg.txFifoDepth ∧ s.txIndex.toNat < pktSize ∧
          ((∃ b, Memory.read s.respBuf s.txIndex.toNat = some b ∧ t = s.pushTx b) ∨
            (Memory.read s.respBuf s.txIndex.toNat = none ∧
              t = s.raiseFault { code := .unwrittenRead, space := .respBuf, addr := s.txIndex.toNat })))) := by
  simp only [execSTx, takeIf_eq_next, State.mainAt_iff s .sTx (by decide)]
  refine and_congr_right fun _ => ?_
  by_cases hf : s.txFifo.length = s.cfg.txFifoDepth
  · rw [if_pos (by simpa using hf)]; simp only [hf, Host.Outcome.next.injEq, eq_comm (a := s)]; simp
  · rw [if_neg (by simpa using hf)]
    by_cases hi : s.txIndex.toNat < pktSize
    · rw [if_neg (by omega)]
      cases hr : Memory.read s.respBuf s.txIndex.toNat with
      | none =>
        have hm : s.memRead .respBuf s.txIndex.toNat 1 = .error ⟨.unwrittenRead, .respBuf, s.txIndex.toNat⟩ :=
          (State.memRead_error_iff _ _ _ _ _).2 ⟨rfl, rfl, Nat.le_refl _, Nat.lt_succ_self _, hr,
            fun k h1 h2 => absurd h2 (Nat.not_lt.2 h1)⟩
        simp [hm, hf, hi, eq_comm (b := t)]
      | some b =>
        have hm : s.memRead .respBuf s.txIndex.toNat 1 = .ok #v[b] :=
          (State.memRead_ok_iff _ _ _ _ _).2 fun i h => by
            obtain rfl : i = 0 := by omega
            exact hr
        simp [hm, hf, hi, eq_comm (b := t)]
    · rw [if_pos (by omega)]; simp [hf, hi]

/-- Only S_TX can stop with a fault of the model's own, at an index past the 64 cells. -/
theorem exec_eq_fault {i : Instr} {s : State} {f : Fault} (h : exec i s = .fault f) :
    i = .sTx ∧ s.AtMain .sTx ∧ pktSize ≤ s.txIndex.toNat := by
  cases i
  case sTx =>
    simp only [exec, execSTx, takeIf_eq_fault, State.mainAt_iff s .sTx (by decide)] at h
    obtain ⟨hm, h⟩ := h
    refine ⟨rfl, hm, ?_⟩
    by_contra hi
    split at h
    · cases h
    · split at h <;> cases h
  case txTake =>
    simp only [exec, execTxTake, takeIf_eq_fault] at h
    obtain ⟨-, h⟩ := h
    split at h <;> cases h
  all_goals exact absurd h takeIf_next_ne_fault

end Sys2Proof.Machine
end

