-- ==== Sys2Proof/Laws/PerInstr.lean ====
section
/-! SUPPORT. Statements about every step as a word: its row of the step map (spec 30_encoding R70, R72). -/

namespace Sys2Proof.Laws.Encoding

/-- The agent code of a step word's upper four bits (30_encoding R70). -/
def agentCode (a : Agent) : BitVec 4 :=
  match a with
  | .lineRx => 1
  | .lineTx => 2
  | .timer => 3
  | .isr => 4
  | .main => 5
  | .sys => 6

/-- A step's word names its agent, is no reserved word, and carries data only for RX_BYTE. -/
def Statement (i : Instr) : Prop :=
  agentField (encode i) = agentCode i.agent ∧ Word.wellFormed (encode i) = true ∧
    ((∀ b, i ≠ .rxByte b) → dataField (encode i) = 0)

theorem rxByte (data : Byte) : Statement (.rxByte data) :=
  ⟨by revert data; decide, by revert data; decide, fun h => absurd rfl (h data)⟩
theorem rxSilence : Statement .rxSilence := by simp [Statement, encode]; decide
theorem txTake : Statement .txTake := by simp [Statement, encode]; decide
theorem tick : Statement .tick := by simp [Statement, encode]; decide
theorem isrEntry : Statement .isrEntry := by simp [Statement, encode]; decide
theorem isrDrain : Statement .isrDrain := by simp [Statement, encode]; decide
theorem isrExit : Statement .isrExit := by simp [Statement, encode]; decide
theorem cwTestReady : Statement .cwTestReady := by simp [Statement, encode]; decide
theorem cwTestCursor : Statement .cwTestCursor := by simp [Statement, encode]; decide
theorem cwRead : Statement .cwRead := by simp [Statement, encode]; decide
theorem cwDecide : Statement .cwDecide := by simp [Statement, encode]; decide
theorem cwRejectReady : Statement .cwRejectReady := by simp [Statement, encode]; decide
theorem cwRejectCursor : Statement .cwRejectCursor := by simp [Statement, encode]; decide
theorem cwDeadline : Statement .cwDeadline := by simp [Statement, encode]; decide
theorem ctPollCursor : Statement .ctPollCursor := by simp [Statement, encode]; decide
theorem ctPollReady : Statement .ctPollReady := by simp [Statement, encode]; decide
theorem ctClear : Statement .ctClear := by simp [Statement, encode]; decide
theorem sPoll : Statement .sPoll := by simp [Statement, encode]; decide
theorem sKick : Statement .sKick := by simp [Statement, encode]; decide
theorem sClear : Statement .sClear := by simp [Statement, encode]; decide
theorem sParseBegin : Statement .sParseBegin := by simp [Statement, encode]; decide
theorem sParseEnd : Statement .sParseEnd := by simp [Statement, encode]; decide
theorem sTx : Statement .sTx := by simp [Statement, encode]; decide
theorem extReset : Statement .extReset := by simp [Statement, encode]; decide

end Sys2Proof.Laws.Encoding
end

