-- ==== Sys2Proof/Machine/Assembler.lean ====
section
/-! DEFINITION. The trace notation of spec 30_encoding R77 and R78: one step or pseudo-step per line, the mnemonic in
lower or upper case, bytes in hexadecimal or decimal, a comment after a semicolon (assumption log 14). -/

namespace Sys2Proof.Machine

/-- A line of a trace. -/
inductive Line where
  | blank
  | step (i : Instr)
  | pseudo (p : Pseudo)
deriving DecidableEq, Repr

/-- The line without its comment. -/
def dropComment (cs : List Char) : List Char := cs.takeWhile (fun c => c != ';')

/-- The words of a line: its maximal runs of characters other than space, tab and comma. `acc` is the run under way,
reversed. -/
def tokens (acc : List Char) (cs : List Char) : List (List Char) :=
  match cs with
  | [] => if acc = [] then [] else [acc.reverse]
  | c :: rest =>
    if c = ' ' ∨ c = '\t' ∨ c = ',' then
      if acc = [] then tokens [] rest else acc.reverse :: tokens [] rest
    else tokens (c :: acc) rest

/-- The value of a lower-case digit in the given base. -/
def digitValue (base : Nat) (c : Char) : Option Nat :=
  let v := if '0'.toNat ≤ c.toNat ∧ c.toNat ≤ '9'.toNat then c.toNat - '0'.toNat
    else if 'a'.toNat ≤ c.toNat ∧ c.toNat ≤ 'f'.toNat then c.toNat - 'a'.toNat + 10
    else base
  if v < base then some v else none

/-- The digits after the value `acc`. -/
def digitsFrom (base acc : Nat) (cs : List Char) : Option Nat :=
  match cs with
  | [] => some acc
  | c :: rest =>
    match digitValue base c with
    | some v => digitsFrom base (acc * base + v) rest
    | none => none

/-- A number: hexadecimal after `0x`, else decimal; at least one digit. -/
def number (t : List Char) : Option Nat :=
  match t with
  | [] => none
  | ['0', 'x'] => none
  | '0' :: 'x' :: ds => digitsFrom 16 0 ds
  | ds => digitsFrom 10 0 ds

/-- A byte operand: a number below 256. -/
def byteOperand (t : List Char) : Option Byte :=
  match number t with
  | some n => if n < 256 then some (BitVec.ofNat 8 n) else none
  | none => none

/-- All the byte operands of a line. -/
def byteOperands (ts : List (List Char)) : Option (List Byte) :=
  match ts with
  | [] => some []
  | t :: rest =>
    match byteOperand t, byteOperands rest with
    | some b, some bs => some (b :: bs)
    | _, _ => none

/-- The steps that take no operand, by mnemonic (30_encoding R72). -/
def plainSteps : List (String × Instr) :=
  [ ("rx_silence", .rxSilence), ("tx_take", .txTake), ("tick", .tick), ("isr_entry", .isrEntry),
    ("isr_drain", .isrDrain), ("isr_exit", .isrExit), ("cw_test_ready", .cwTestReady),
    ("cw_test_cursor", .cwTestCursor), ("cw_read", .cwRead), ("cw_decide", .cwDecide),
    ("cw_reject_ready", .cwRejectReady), ("cw_reject_cursor", .cwRejectCursor), ("cw_deadline", .cwDeadline),
    ("ct_poll_cursor", .ctPollCursor), ("ct_poll_ready", .ctPollReady), ("ct_clear", .ctClear),
    ("s_poll", .sPoll), ("s_kick", .sKick), ("s_clear", .sClear), ("s_parse_begin", .sParseBegin),
    ("s_parse_end", .sParseEnd), ("s_tx", .sTx), ("ext_reset", .extReset) ]

/-- A line with no operand: a plain step, or `isr_run`. -/
def plainLine (m : List Char) : Option Line :=
  if m = "isr_run".toList then some (.pseudo .isrRun)
  else
    match plainSteps.find? (fun p => p.1.toList == m) with
    | some p => some (.step p.2)
    | none => none

/-- A line with operands. -/
def operandLine (m : List Char) (ops : List (List Char)) : Option Line :=
  if m = "rx_bytes".toList then
    match byteOperands ops with
    | some bs => some (.pseudo (.rxBytes bs))
    | none => none
  else if m = "rx_fill".toList then
    match ops with
    | [v, n] =>
      match byteOperand v, number n with
      | some b, some k => some (.pseudo (.rxFill b k))
      | _, _ => none
    | _ => none
  else
    match ops with
    | [n] =>
      if m = "rx_byte".toList then
        match byteOperand n with
        | some b => some (.step (.rxByte b))
        | none => none
      else
        match number n with
        | some k =>
          if m = "ticks".toList then some (.pseudo (.ticks k))
          else if m = "main_run".toList then some (.pseudo (.mainRun k))
          else if m = "take".toList then some (.pseudo (.take k))
          else none
        | none => none
    | _ => none

/-- One line; none when it is no line of a trace. -/
def parseLine (cs : List Char) : Option Line :=
  match tokens [] ((dropComment cs).map Char.toLower) with
  | [] => some .blank
  | [m] => plainLine m
  | m :: ops => operandLine m ops

/-- The steps of a line in the state where it stands. -/
def Line.expand (l : Line) (s : State) : List Instr :=
  match l with
  | .blank => []
  | .step i => [i]
  | .pseudo p => p.expand s

/-- The step words of a text, line by line from the state `s`; none when some line is no line of a trace. After a step
that is not taken the state stays where the line began. -/
def assemble (s : State) (lines : List (List Char)) : Option (List Word) :=
  match lines with
  | [] => some []
  | l :: rest =>
    match parseLine l with
    | none => none
    | some p =>
      let is := p.expand s
      let after : State := match execAll is s with
        | .next t => t
        | .fault _ => s
        | .refused _ => s
      match assemble after rest with
      | some ws => some (is.map encode ++ ws)
      | none => none

end Sys2Proof.Machine
end

