-- ==== Sys2Proof/Tests/Slice0.lean ====
section
/-! SUPPORT. Tests: words written out from 30_encoding, the vectors of 95_test_vectors, and for every statement with
hypotheses a state that meets them. Expected values come from spec/. -/

namespace Sys2Proof.Tests

open Sys2Proof.Machine

/-! ### Helpers -/

/-- The start state of the vectors: S0(POWER_ON) under configuration E. -/
def s0 : State := State.reset

/-- S0 with the main sequencer at `m`. -/
def atMain (m : MainPc) : State := { s0 with mainPc := m }

/-- S0 with the interrupt context at `p`. -/
def atIsr (p : IsrPc) : State := { s0 with isrPc := p }

/-- S0 with a trace of one word placed. -/
def withWord (w : Word) : State := { s0 with trace := [w] }

/-- A view of the next state, none when the step is not taken. -/
def see {α : Type} (o : Host.Outcome State Fault Refusal) (f : State → α) : Option α :=
  match o with
  | .next t => some (f t)
  | .fault _ => none
  | .refused _ => none

/-- The refusal, none otherwise. -/
def refusal (o : Host.Outcome State Fault Refusal) : Option Refusal :=
  match o with
  | .next _ => none
  | .fault _ => none
  | .refused r => some r

/-- The model's own fault, none otherwise. -/
def stop (o : Host.Outcome State Fault Refusal) : Option Fault :=
  match o with
  | .next _ => none
  | .fault f => some f
  | .refused _ => none

/-- A step is taken. -/
def isNext (o : Host.Outcome State Fault Refusal) : Bool := (see o fun _ => ()).isSome

/-- `n` bytes, each equal to its place. -/
def count (n : Nat) : List Byte := (List.range n).map (BitVec.ofNat 8)

/-- The packet 00 01 .. 3F. -/
def ramp : Packet := Vector.ofFn fun i : Fin 64 => BitVec.ofNat 8 i.val

/-- The Receive Buffer 00 01 .. 3F. -/
def rampBuf : Memory := Memory.ofBytes 0 (count 64)

/-! ### Decoding: every constructor's word, written out from the step map of 30_encoding R72 -/

theorem test_decode_line :
    decode 0b0001_0000_1010_1110#16 = .step (.rxByte 0xAE) ∧ decode 0b0001_0000_1111_1111#16 = .step (.rxByte 0xFF) ∧
    decode 0b0001_0001_0000_0000#16 = .step .rxSilence ∧ decode 0b0010_0000_0000_0000#16 = .step .txTake := by decide

theorem test_decode_timer_sys :
    decode 0b0011_0000_0000_0000#16 = .step .tick ∧ decode 0b0110_0000_0000_0000#16 = .step .extReset := by decide

theorem test_decode_isr :
    decode 0b0100_0000_0000_0000#16 = .step .isrEntry ∧ decode 0b0100_0001_0000_0000#16 = .step .isrDrain ∧
    decode 0b0100_0010_0000_0000#16 = .step .isrExit := by decide

theorem test_decode_connect :
    decode 0b0101_0000_0000_0000#16 = .step .cwTestReady ∧ decode 0b0101_0001_0000_0000#16 = .step .cwTestCursor ∧
    decode 0b0101_0010_0000_0000#16 = .step .cwRead ∧ decode 0b0101_0011_0000_0000#16 = .step .cwDecide ∧
    decode 0b0101_0100_0000_0000#16 = .step .cwRejectReady ∧
    decode 0b0101_0101_0000_0000#16 = .step .cwRejectCursor ∧
    decode 0b0101_0110_0000_0000#16 = .step .cwDeadline := by decide

theorem test_decode_tail :
    decode 0b0101_0111_0000_0000#16 = .step .ctPollCursor ∧ decode 0b0101_1000_0000_0000#16 = .step .ctPollReady ∧
    decode 0b0101_1001_0000_0000#16 = .step .ctClear := by decide

theorem test_decode_session :
    decode 0b0101_1010_0000_0000#16 = .step .sPoll ∧ decode 0b0101_1011_0000_0000#16 = .step .sKick ∧
    decode 0b0101_1100_0000_0000#16 = .step .sClear ∧ decode 0b0101_1101_0000_0000#16 = .step .sParseBegin ∧
    decode 0b0101_1110_0000_0000#16 = .step .sParseEnd ∧ decode 0b0101_1111_0000_0000#16 = .step .sTx := by decide

/-- Vectors E3 to E9. -/
theorem test_decode_invalid :
    decode 0x1101#16 = .invalid .nonzeroData ∧ decode 0x1200#16 = .invalid .reservedOp ∧
    decode 0x0000#16 = .invalid .reservedAgent ∧ decode 0x4300#16 = .invalid .reservedOp ∧
    decode 0x5F01#16 = .invalid .nonzeroData ∧ decode 0x7000#16 = .invalid .reservedAgent ∧
    decode 0xF000#16 = .invalid .reservedAgent ∧ decode 0x2100#16 = .invalid .reservedOp ∧
    decode 0x3100#16 = .invalid .reservedOp ∧ decode 0x6100#16 = .invalid .reservedOp := by decide

theorem test_encode :
    encode (.rxByte 0xFF) = 0x10FF#16 ∧ encode .isrExit = 0x4200#16 ∧ encode .sPoll = 0x5A00#16 ∧
    encode .extReset = 0x6000#16 := by decide

theorem test_decodeTableWord :
    decodeTableWord 16 0x5A00 = some .sPoll ∧ decodeTableWord 16 0x10AE = some (.rxByte 0xAE) ∧
    decodeTableWord 16 0x5A01 = none := by decide

/-! ### Well-formedness: each check refuses its ill-formed term -/

theorem test_wellFormed_word :
    Word.wellFormed 0x10AE#16 = true ∧ Word.wellFormed 0x5F00#16 = true ∧ Word.wellFormed 0x0000#16 = false ∧
    Word.wellFormed 0x7000#16 = false ∧ Word.wellFormed 0x4300#16 = false ∧ Word.wellFormed 0x1101#16 = false := by
  decide

theorem test_wellFormed_config :
    Config.example95.wellFormed = true ∧
    Config.wellFormed { Config.example95 with rxFifoDepth := 0 } = false ∧
    Config.wellFormed { Config.example95 with txFifoDepth := 0 } = false ∧
    Config.wellFormed { Config.example95 with connectTimeoutTicks := 0 } = false ∧
    Config.wellFormed { Config.example95 with wdtTimeoutTicks := 0 } = false := by decide

theorem test_memory_wf :
    Memory.wf [(3, 0xAA#8), (9, 0xBB#8)] ∧ ¬ Memory.wf [(9, 0xBB#8), (3, 0xAA#8)] ∧
    ¬ Memory.wf [(3, 0xAA#8), (3, 0xBB#8)] ∧ ¬ Memory.wf [(64, 0xAA#8)] := by decide

theorem test_reset_memory_wf :
    Memory.wf State.reset.rxBuf ∧ Memory.wf State.reset.reqLatch ∧ Memory.wf State.reset.respBuf := by decide

/-! ### Vectors of the framer (95_test_vectors 2.1) -/

/-- F1. -/
theorem test_F1 : see (exec (.rxByte 0xAE) s0) (fun t => (t.rxFifo, t.rxOverflow)) = some ([0xAE#8], false) := by decide

/-- F2. -/
theorem test_F2 :
    see (exec (.rxByte 0x55) { s0 with rxFifo := count 16 }) (fun t => (t.rxFifo, t.rxOverflow))
      = some (count 16, true) := by decide

/-- F4. -/
theorem test_F4 : see (exec .rxSilence s0) (·.rxToutPending) = some true := by decide

/-- F6. -/
theorem test_F6 : refusal (exec .isrEntry s0) = some (.notEnabled 0) := by decide

/-- F7. -/
theorem test_F7 :
    see (exec .isrEntry { s0 with rxFifo := [0x01], rxToutPending := true })
      (fun t => (t.isrTout, t.rxToutPending, t.isrPc)) = some (true, false, .drain) := by decide

/-- F9. -/
theorem test_F9 :
    see (exec .isrDrain { atIsr .drain with cursor := 63, rxFifo := [0x7F, 0x80] })
      (fun t => (Memory.read t.rxBuf 63, t.cursor, t.rxFifo)) = some (some 0x7F#8, 64#7, [0x80#8]) := by decide

/-- F10. -/
theorem test_F10 :
    see (exec .isrDrain { atIsr .drain with cursor := 64, rxFifo := [0x80] }) (fun t => (t.isrPc, t.rxFifo))
      = some (.exit, [0x80#8]) := by decide

/-- F14. -/
theorem test_F14 :
    see (exec .isrExit { atIsr .exit with cursor := 64, isrTout := true })
      (fun t => (t.ready, t.cursor, t.isrTout, t.isrPc)) = some (true, 0#7, false, .idle) := by decide

/-- F12 and F13: the flush under each policy. -/
theorem test_F12_F13 :
    see (exec .isrExit { atIsr .exit with cursor := 3, isrTout := true }) (fun t => (t.ready, t.cursor, t.isrTout))
      = some (false, 0#7, false) ∧
    see (exec .isrExit { atIsr .exit with
        cursor := 3, isrTout := true, cfg := { s0.cfg with timeoutPolicy := .flushPartial } })
      (fun t => (t.ready, t.cursor, t.isrTout)) = some (true, 0#7, false) := by decide

/-- F17, beside F8: `parse_dirty` is marked in the parse window only. -/
theorem test_F17_F8 :
    see (exec .isrDrain { atIsr .drain with mainPc := .sParseEnd, rxFifo := [0x99] })
      (fun t => (Memory.read t.rxBuf 0, t.cursor, t.parseDirty)) = some (some 0x99#8, 1#7, true) ∧
    see (exec .isrDrain { atIsr .drain with cursor := 5, rxFifo := [0x41] })
      (fun t => (Memory.read t.rxBuf 5, t.cursor, t.parseDirty)) = some (some 0x41#8, 6#7, false) := by decide

/-! ### Vectors of the connect family (95_test_vectors 2.2) -/

/-- C1. -/
theorem test_C1 : see (exec .cwTestReady { atMain .cwTestReady with ready := true }) (·.mainPc) = some .cwRead := by
  decide

/-- C2. -/
theorem test_C2 : see (exec .cwTestReady (atMain .cwTestReady)) (·.mainPc) = some .cwTestCursor := by decide

/-- C3 and C4: the peek needs four bytes. -/
theorem test_C3_C4 :
    see (exec .cwTestCursor { atMain .cwTestCursor with cursor := 3 }) (·.mainPc) = some .cwDeadline ∧
    see (exec .cwTestCursor { atMain .cwTestCursor with cursor := 4 }) (·.mainPc) = some .cwRead := by decide

/-- C5. -/
theorem test_C5 :
    see (exec .cwRead { atMain .cwRead with rxBuf := Memory.ofBytes 0 [0x01, 0x02, 0x03, 0x04] })
      (fun t => (t.cmdWord, t.mainPc)) = some (some 0x04030201#32, .cwDecide) := by decide

/-- C6. -/
theorem test_C6 :
    see (exec .cwRead { atMain .cwRead with rxBuf := Memory.ofBytes 0 [0xAE, 0x00] })
      (fun t => (t.fault, t.mainPc, t.cmdWord))
      = some (some { code := .unwrittenRead, space := .rxBuf, addr := 2 }, .cwRead, none) := by decide

/-- C8, C9 and C10. -/
theorem test_C8_C9_C10 :
    see (exec .cwDecide { atMain .cwDecide with cmdWord := some 0xAE, wdtCount := 1 })
      (fun t => (t.wdtEnabled, t.wdtCount, t.mainPc)) = some (true, 2#32, .ctPollCursor) ∧
    see (exec .cwDecide { atMain .cwDecide with
        cmdWord := some 0xAE, cfg := { s0.cfg with connectTailPolicy := .deliver } })
      (fun t => (t.wdtEnabled, t.mainPc)) = some (true, .sPoll) ∧
    see (exec .cwDecide { atMain .cwDecide with cmdWord := some 0xAE, cfg := { s0.cfg with wdtMode := .disabled } })
      (fun t => (t.wdtEnabled, t.mainPc)) = some (false, .ctPollCursor) := by decide

/-- C11 and C12. -/
theorem test_C11_C12 :
    see (exec .cwDecide { atMain .cwDecide with cmdWord := some 0xAF }) (·.mainPc) = some .cwRejectReady ∧
    see (exec .cwDecide { atMain .cwDecide with cmdWord := some 0xAE000000 }) (·.mainPc) = some .cwRejectReady := by
  decide

/-- C14. -/
theorem test_C14 :
    see (exec .cwRejectReady { atMain .cwRejectReady with ready := true }) (fun t => (t.ready, t.mainPc))
      = some (false, .cwRejectCursor) := by decide

/-- C15. -/
theorem test_C15 :
    see (exec .cwRejectCursor { atMain .cwRejectCursor with cursor := 10 }) (fun t => (t.cursor, t.mainPc))
      = some (0#7, .cwDeadline) := by decide

/-- C16. -/
theorem test_C16 : see (exec .cwDeadline (atMain .cwDeadline)) (·.mainPc) = some .cwTestReady := by decide

/-- C17. -/
theorem test_C17 : see (exec .cwDeadline { atMain .cwDeadline with dlExpired := true }) (·.mainPc) = some .booted := by
  decide

/-- C18. -/
theorem test_C18 :
    see (exec .ctPollCursor { atMain .ctPollCursor with cursor := 20, ctZero := true }) (fun t => (t.ctZero, t.mainPc))
      = some (false, .ctPollReady) := by decide

/-- C19 and C20. -/
theorem test_C19_C20 :
    see (exec .ctPollReady (atMain .ctPollReady)) (·.mainPc) = some .ctPollCursor ∧
    see (exec .ctPollReady { atMain .ctPollReady with ctZero := true }) (·.mainPc) = some .sPoll := by decide

/-- C21 and C22. -/
theorem test_C21_C22 :
    see (exec .ctPollReady { atMain .ctPollReady with ready := true, ctZero := true }) (·.mainPc) = some .ctClear ∧
    see (exec .ctPollReady { atMain .ctPollReady with ready := true }) (·.mainPc) = some .ctClear := by decide

/-- C23. -/
theorem test_C23 :
    see (exec .ctClear { atMain .ctClear with ready := true, cursor := 5 }) (fun t => (t.ready, t.mainPc, t.cursor))
      = some (false, .sPoll, 5#7) := by decide

/-- F19 and C24: MAIN is suspended by an invocation, and an op that is not `main_pc` is not enabled. -/
theorem test_F19_C24 :
    refusal (exec .cwRejectReady { atIsr .drain with mainPc := .cwRejectReady }) = some (.notEnabled 0) ∧
    refusal (exec .cwTestReady (atMain .cwTestCursor)) = some (.notEnabled 0) := by decide

/-! ### Vectors of the session (95_test_vectors 2.3) -/

/-- S1 and S2. -/
theorem test_S1_S2 :
    see (exec .sPoll (atMain .sPoll)) id = some (atMain .sPoll) ∧
    see (exec .sPoll { atMain .sPoll with ready := true }) (·.mainPc) = some .sKick := by decide

/-- S3 and S4. -/
theorem test_S3_S4 :
    see (exec .sKick { atMain .sKick with wdtEnabled := true, wdtCount := 1 }) (fun t => (t.wdtCount, t.mainPc))
      = some (2#32, .sClear) ∧
    see (exec .sKick { atMain .sKick with wdtCount := 1 }) (fun t => (t.wdtCount, t.wdtEnabled, t.mainPc))
      = some (1#32, false, .sClear) := by decide

/-- S5. -/
theorem test_S5 :
    see (exec .sClear { atMain .sClear with ready := true }) (fun t => (t.ready, t.mainPc))
      = some (false, .sParseBegin) := by decide

/-- S6. -/
theorem test_S6 :
    see (exec .sParseBegin { atMain .sParseBegin with rxBuf := rampBuf, parseDirty := true })
      (fun t => (t.reqLatch, t.parseDirty, t.mainPc)) = some (rampBuf, false, .sParseEnd) := by decide

/-- S7. -/
theorem test_S7 :
    see (exec .sParseBegin { atMain .sParseBegin with rxBuf := Memory.ofBytes 0 (count 10) }) (·.fault)
      = some (some { code := .unwrittenRead, space := .rxBuf, addr := 10 }) := by decide

/-- S8, but for the bytes PARSE_FN gives: nothing is drawn. -/
theorem test_S8 :
    see (exec .sParseEnd { atMain .sParseEnd with reqLatch := rampBuf, txIndex := 64 })
      (fun t => (t.txIndex, t.mainPc, t.draws, t.parseDirty)) = some (0#7, .sTx, 0, false) := by decide

/-- S10: a torn parse draws 64 bytes, one for each cell. -/
theorem test_S10 :
    see (exec .sParseEnd { atMain .sParseEnd with reqLatch := rampBuf, parseDirty := true })
      (fun t => (t.respBuf.map Prod.fst, t.txIndex, t.mainPc, t.draws, t.parseDirty))
      = some (List.range 64, 0#7, .sTx, 64, false) := by decide

/-- S11 and S13. -/
theorem test_S11_S13 :
    see (exec .sTx { atMain .sTx with respBuf := Memory.ofBytes 0 [0x01] })
      (fun t => (t.txFifo, t.txIndex, t.mainPc)) = some ([0x01#8], 1#7, .sTx) ∧
    see (exec .sTx { atMain .sTx with txIndex := 63, respBuf := Memory.ofBytes 63 [0x40], txFifo := count 3 })
      (fun t => (t.txFifo, t.txIndex, t.mainPc)) = some (count 3 ++ [0x40#8], 64#7, .sPoll) := by decide

/-- S12. -/
theorem test_S12 :
    see (exec .sTx { atMain .sTx with txFifo := count 16 }) id = some { atMain .sTx with txFifo := count 16 } := by
  decide

/-- S14. -/
theorem test_S14 : see (exec .txTake { s0 with txFifo := [0x01] }) (fun t => (t.txFifo, t.txOut)) = some ([], [0x01#8]) := by
  decide

/-- S15. -/
theorem test_S15 : refusal (exec .txTake s0) = some (.notEnabled 0) := by decide

/-! ### Vectors of the timers and reset (95_test_vectors 2.4) -/

/-- T1, T2 and T3. -/
theorem test_T1_T2_T3 :
    see (exec .tick s0) (fun t => (t.dlCount, t.dlExpired)) = some (2#32, false) ∧
    see (exec .tick { s0 with dlCount := 1 }) (fun t => (t.dlCount, t.dlExpired)) = some (0#32, true) ∧
    see (exec .tick { s0 with dlCount := 0, dlExpired := true }) id
      = some { s0 with dlCount := 0, dlExpired := true } := by decide

/-- T6: the watchdog wins, and the state is S0(WATCHDOG). -/
theorem test_T6 :
    see (exec .tick { s0 with wdtEnabled := true, wdtCount := 1, dlCount := 1, cursor := 5, isrPc := .drain }) id
      = some { s0 with lastResetCause := .watchdog } := by decide

/-- T9. -/
theorem test_T9 :
    see (exec .extReset { atMain .sTx with txOut := [0x01, 0x02], txFifo := [0x03], ready := true }) id
      = some { s0 with txOut := [0x01, 0x02], lastResetCause := .external } := by decide

/-- T10. -/
theorem test_T10 :
    (State.powerOn { Config.example95 with wdtMode := .atReset }).wdtEnabled = true ∧
    (State.powerOn { Config.example95 with wdtMode := .atReset }).wdtCount = 2 := by decide

/-- T11. -/
theorem test_T11 : refusal (exec .extReset (atMain .booted)) = some (.notEnabled 0) := by decide

/-- T12. -/
theorem test_T12 :
    refusal (exec .tick { s0 with fault := some { code := .unwrittenRead, space := .rxBuf, addr := 2 } })
      = some (.notEnabled 0) := by decide

/-! ### Stepping and the trace notation -/

/-- A placed word runs and is moved past. -/
theorem test_step_tick :
    see (step (withWord 0x3000)) (fun t => (t.dlCount, t.trace, t.tracePos)) = some (2#32, [], 1) := by decide

/-- An INVALID word is refused with its position (60_exceptions R172). -/
theorem test_step_invalid :
    refusal (step { withWord 0x0000 with tracePos := 7 }) = some (.invalidWord 7 .reservedAgent) := by decide

/-- 30_encoding R77: a comment, a byte in hexadecimal, a mnemonic in upper case. -/
theorem test_parse_lines :
    parseLine "rx_byte 0xAE ; comment".toList = some (.step (.rxByte 0xAE)) ∧
    parseLine "S_POLL".toList = some (.step .sPoll) ∧ parseLine "; only a comment".toList = some .blank ∧
    parseLine "rx_bytes 0x01, 2".toList = some (.pseudo (.rxBytes [1, 2])) ∧
    parseLine "main_run 3".toList = some (.pseudo (.mainRun 3)) ∧ parseLine "rx_byte 256".toList = none := by decide

/-- 30_encoding R78 and vector F18: an invocation that moves two bytes. -/
theorem test_isr_run :
    (Pseudo.isrRun.expand { s0 with rxFifo := [0x01, 0x02] }).map encode
      = [0x4000#16, 0x4100#16, 0x4100#16, 0x4100#16, 0x4200#16] := by decide

/-- 30_encoding R78: `main_run` names the MAIN step in force each time, as program P1's first line. -/
theorem test_main_run : (Pseudo.expand (.mainRun 3) s0).map encode = [0x5000#16, 0x5100#16, 0x5600#16] := by decide

/-! ### Witnesses: for every statement with hypotheses, states that meet them -/

/-- A state that meets the invariant: power-on under E. -/
theorem wit_InvariantHoldsAtPowerOn : Config.example95.wellFormed = true ∧ State.reset = State.powerOn Config.example95 :=
  ⟨by decide, rfl⟩

theorem reset_inv : State.reset.Inv := by
  constructor
  case canonical => constructor <;> decide
  all_goals decide

/-- The same with a trace placed. -/
theorem withWord_inv (w : Word) : (withWord w).Inv where
  params := reset_inv.params
  cursorLe := reset_inv.cursorLe
  cursorIdle := reset_inv.cursorIdle
  rxFits := reset_inv.rxFits
  txFits := reset_inv.txFits
  txIndexLe := reset_inv.txIndexLe
  txIndexAtTx := reset_inv.txIndexAtTx
  deadline := reset_inv.deadline
  watchdog := reset_inv.watchdog
  cmdLatched := reset_inv.cmdLatched
  responseWritten := reset_inv.responseWritten
  requestLatched := reset_inv.requestLatched
  toutIdle := reset_inv.toutIdle
  accumulated := reset_inv.accumulated
  readyWhole := reset_inv.readyWhole
  peekWhole := reset_inv.peekWhole
  takenWhole := reset_inv.takenWhole
  dirtyWindow := reset_inv.dirtyWindow
  wdtDisabled := reset_inv.wdtDisabled
  wdtAtReset := reset_inv.wdtAtReset
  wdtAtPhaseB := reset_inv.wdtAtPhaseB
  dlBound := reset_inv.dlBound
  wdtBound := reset_inv.wdtBound
  tailPolicy := reset_inv.tailPolicy
  canonical := ⟨reset_inv.canonical.1, reset_inv.canonical.2, reset_inv.canonical.3⟩

/-- A word of each class of 30_encoding R74's list, at its boundary; and words just outside it. -/
theorem wit_ReservedWordsAreRefusedOthersDecode :
    ReservedWord 0x0000 ∧ ReservedWord 0x7000 ∧ ReservedWord 0x1200 ∧ ReservedWord 0x2100 ∧
    (withWord 0x0000).trace = 0x0000 :: [] :=
  ⟨by decide, by decide, by decide, by decide, by decide⟩

theorem wit_ReservedWords_data_and_others :
    ReservedWord 0x4300 ∧ ReservedWord 0x1101 ∧ ReservedWord 0x5F01 ∧
    ¬ ReservedWord 0x10FF ∧ ¬ ReservedWord 0x1100 ∧ ¬ ReservedWord 0x4200 ∧ ¬ ReservedWord 0x5F00 :=
  ⟨by decide, by decide, by decide, by decide, by decide, by decide, by decide⟩

/-- A state that faults with the model's own fault: S_TX past the 64 cells. -/
def pastTheCells : State := { atMain .sTx with txIndex := 64, trace := [0x5F00] }

theorem wit_StepRunsTheDecodedWord :
    ((withWord 0x3000).trace = 0x3000 :: [] ∧ decode 0x3000 = .step .tick ∧
      isNext (exec .tick (withWord 0x3000)) = true) ∧
    (pastTheCells.trace = 0x5F00 :: [] ∧ decode 0x5F00 = .step .sTx ∧
      stop (exec .sTx pastTheCells) = some (.noSuchCell .respBuf 64)) ∧
    ((withWord 0x2000).trace = 0x2000 :: [] ∧ decode 0x2000 = .step .txTake ∧
      refusal (exec .txTake (withWord 0x2000)) = some (.notEnabled 0)) := by decide

theorem wit_EmptyTraceEndsTheRun : s0.trace = [] := by decide

/-- A MAIN step placed: its word is the whole trace, and its meaning is taken. -/
theorem wit_PlacedWordRunsAfterPowerOn :
    ((State.powerOn Config.example95).withFetchWord 16 (encode .sKick).toNat).trace = [0x5B00] ∧
    isNext (exec .sKick ((State.powerOn Config.example95).withFetchWord 16 (encode .sKick).toNat)) = true := by decide

theorem wit_EnabledStepsAreTaken :
    s0.Enabled .tick ∧ { atMain .sTx with txIndex := 63 }.Enabled .sTx ∧ ({ atMain .sTx with txIndex := 63 }).txIndex.toNat < 64 ∧
    { s0 with rxToutPending := true }.Enabled .isrEntry ∧ { s0 with txFifo := [0] }.Enabled .txTake := by
  unfold State.Enabled; decide

theorem wit_FaultedAndBootedHaveNoSteps :
    { s0 with fault := some { code := .unwrittenRead, space := .rxBuf, addr := 2 } }.fault ≠ none ∧
    (atMain .booted).mainPc = .booted := by decide

theorem wit_InterruptSuspendsTheMainSequencer :
    (Instr.sPoll.agent = .main ∧ { atIsr .drain with mainPc := .sPoll }.isrPc ≠ .idle) ∧
    (Instr.isrDrain.agent = .isr ∧ isNext (exec .isrDrain { atIsr .drain with mainPc := .sPoll }) = true) ∧
    isNext (exec .isrExit { atIsr .exit with mainPc := .sPoll }) = true := by decide

/-- RX_BYTE, RX_SILENCE, EXT_RESET: an active state; each side of the FIFO's depth. -/
theorem wit_RxByteQueuesOrIsLost_RxSilence_ExtReset :
    s0.Running ∧ { s0 with rxFifo := count 15 }.Running ∧ (count 15).length < s0.cfg.rxFifoDepth ∧
    { s0 with rxFifo := count 16 }.Running ∧ ¬ (count 16).length < s0.cfg.rxFifoDepth := by decide

theorem wit_IsrEntryLatchesTheTimeout :
    s0.Running ∧ s0.isrPc = .idle ∧ (s0.rxFifo = [] ∧ s0.rxToutPending = false) ∧ (atIsr .drain).isrPc ≠ .idle ∧
    { s0 with rxFifo := [1] }.rxFifo ≠ [] ∧ { s0 with rxToutPending := true }.rxToutPending = true := by decide

theorem wit_IsrDrainMovesOneByteOrEnds :
    ({ atIsr .drain with cursor := 63, rxFifo := [1] }.Running ∧
      { atIsr .drain with cursor := 63, rxFifo := [1] }.isrPc = .drain ∧
      { atIsr .drain with cursor := 63, rxFifo := [1] }.cursor.toNat < 64 ∧
      isNext (exec .isrDrain { atIsr .drain with cursor := 63, rxFifo := [1] }) = true) ∧
    ((atIsr .exit).Running ∧ (atIsr .exit).isrPc ≠ .drain) ∧
    ((atIsr .drain).rxFifo = [] ∧ isNext (exec .isrDrain (atIsr .drain)) = true) ∧
    (64 ≤ { atIsr .drain with cursor := 64, rxFifo := [1] }.cursor.toNat ∧
      isNext (exec .isrDrain { atIsr .drain with cursor := 64, rxFifo := [1] }) = true) := by decide

/-- The four ways out of ISR_EXIT: full, flush under each policy, and neither. -/
theorem wit_IsrExitDeliversFlushesOrKeeps :
    (atIsr .exit).Running ∧ (atIsr .exit).isrPc = .exit ∧ s0.Running ∧ s0.isrPc ≠ .exit ∧
    isNext (exec .isrExit { atIsr .exit with cursor := 64 }) = true ∧
    isNext (exec .isrExit { atIsr .exit with cursor := 1, isrTout := true }) = true ∧
    isNext (exec .isrExit { atIsr .exit with
      cursor := 63, isrTout := true, cfg := { s0.cfg with timeoutPolicy := .flushPartial } }) = true ∧
    isNext (exec .isrExit { atIsr .exit with isrTout := true }) = true := by decide

/-- Each MAIN step's place, for the statements that ask for nothing else. -/
theorem wit_AtMain :
    (atMain .cwTestReady).AtMain .cwTestReady ∧ (atMain .cwTestCursor).AtMain .cwTestCursor ∧
    (atMain .cwRejectReady).AtMain .cwRejectReady ∧ (atMain .cwRejectCursor).AtMain .cwRejectCursor ∧
    (atMain .cwDeadline).AtMain .cwDeadline ∧ (atMain .ctPollCursor).AtMain .ctPollCursor ∧
    (atMain .ctPollReady).AtMain .ctPollReady ∧ (atMain .ctClear).AtMain .ctClear ∧
    (atMain .sPoll).AtMain .sPoll ∧ (atMain .sKick).AtMain .sKick ∧ (atMain .sClear).AtMain .sClear := by decide

/-- Four bytes written, and the lowest UNWRITTEN cell at each end of the range. -/
theorem wit_CwReadLatchesTheLittleEndianCode :
    (atMain .cwRead).AtMain .cwRead ∧
    (Memory.read rampBuf 0 = some 0 ∧ Memory.read rampBuf 1 = some 1 ∧ Memory.read rampBuf 2 = some 2 ∧
      Memory.read rampBuf 3 = some 3) ∧
    (Memory.read s0.rxBuf 0 = none ∧ Memory.Written s0.rxBuf 0) ∧
    (Memory.read (Memory.ofBytes 0 [1, 2, 3]) 3 = none ∧ Memory.Written (Memory.ofBytes 0 [1, 2, 3]) 3) := by decide

theorem wit_CwDecideAcceptsConnectAlone :
    { atMain .cwDecide with cmdWord := some 0xAE }.AtMain .cwDecide ∧ (0xAE : Word32) = s0.cfg.connectCode ∧
    { atMain .cwDecide with cmdWord := some 0xAF }.cmdWord = some 0xAF ∧ (0xAF : Word32) ≠ s0.cfg.connectCode := by
  decide

theorem wit_SParseBeginCopiesTheBuffer :
    (atMain .sParseBegin).AtMain .sParseBegin ∧ Memory.Written rampBuf 64 ∧
    (Memory.read (Memory.ofBytes 0 (count 63)) 63 = none ∧ Memory.Written (Memory.ofBytes 0 (count 63)) 63) ∧
    (Memory.read s0.rxBuf 0 = none ∧ Memory.Written s0.rxBuf 0) := by decide

theorem wit_SParseEndWritesTheWholeResponse :
    { atMain .sParseEnd with reqLatch := rampBuf }.AtMain .sParseEnd ∧
    (∀ (a : Nat) (h : a < 64), Memory.read rampBuf a = some ramp[a]) ∧
    { atMain .sParseEnd with reqLatch := rampBuf }.parseDirty = false ∧
    { atMain .sParseEnd with parseDirty := true }.AtMain .sParseEnd ∧
    { atMain .sParseEnd with parseDirty := true }.parseDirty = true := by decide

/-- Full; and not full at the last cell, written and UNWRITTEN. -/
theorem wit_STxSendsOneByteOrSpins :
    { atMain .sTx with txFifo := count 16 }.AtMain .sTx ∧ (count 16).length = s0.cfg.txFifoDepth ∧
    (count 15).length ≠ s0.cfg.txFifoDepth ∧ { atMain .sTx with txIndex := 63 }.txIndex.toNat < 64 ∧
    Memory.read rampBuf 63 = some 63 ∧ Memory.read s0.respBuf 63 = none := by decide

theorem wit_TxTakeSendsTheOldestByte :
    { s0 with txFifo := [1, 2] }.Running ∧ { s0 with txFifo := [1, 2] }.txFifo = 1 :: [2] ∧ s0.txFifo = [] := by decide

theorem wit_TickCountsOrResets :
    s0.Running ∧ (s0.wdtEnabled = true → 1 < s0.wdtCount.toNat) ∧
    { s0 with wdtEnabled := true }.Running ∧ 1 < { s0 with wdtEnabled := true }.wdtCount.toNat ∧
    { s0 with wdtEnabled := true, wdtCount := 1 }.Running ∧
    { s0 with wdtEnabled := true, wdtCount := 1 }.wdtCount.toNat = 1 := by decide

theorem wit_PowerOnIsResetOfAnyState : { atMain .sTx with ready := true }.cfg = Config.example95 := by decide

theorem wit_UnreachableCornersAsLogged :
    ((atMain .cwDecide).AtMain .cwDecide ∧ (atMain .cwDecide).cmdWord = none) ∧
    ((atMain .sParseEnd).AtMain .sParseEnd ∧ Memory.read s0.reqLatch 63 = none) ∧
    ({ s0 with wdtEnabled := true, wdtCount := 0 }.Running ∧
      { s0 with wdtEnabled := true, wdtCount := 0 }.wdtCount = 0) ∧
    (pastTheCells.AtMain .sTx ∧ pastTheCells.txFifo.length ≠ pastTheCells.cfg.txFifoDepth ∧
      64 ≤ pastTheCells.txIndex.toNat) := by decide

/-- A step that is taken and does not reset, for the statements about any such step. -/
theorem wit_steps_short_of_reset :
    (isNext (exec .tick s0) = true ∧ ¬ s0.Resets .tick) ∧
    (isNext (exec .isrDrain { atIsr .drain with rxFifo := [1] }) = true ∧
      ¬ { atIsr .drain with rxFifo := [1] }.Resets .isrDrain) ∧
    (isNext (exec .sTx { atMain .sTx with respBuf := rampBuf }) = true ∧
      ¬ { atMain .sTx with respBuf := rampBuf }.Resets .sTx) := by
  unfold State.Resets; decide

/-- OnlyTheParseStepsWriteLatchAndResponse: each of the two steps beside the other's space. -/
theorem wit_OnlyTheParseStepsWriteLatchAndResponse :
    isNext (exec .sParseBegin { atMain .sParseBegin with rxBuf := rampBuf }) = true ∧
    isNext (exec .sParseEnd { atMain .sParseEnd with reqLatch := rampBuf }) = true ∧
    Instr.sParseEnd ≠ .sParseBegin := by decide

/-- CursorMovesOnlyByDrainExitAndReject: each of the three steps moves the cursor somewhere. -/
theorem wit_CursorMovesOnlyByDrainExitAndReject :
    see (exec .isrDrain { atIsr .drain with cursor := 63, rxFifo := [1] }) (·.cursor) = some 64 ∧
    see (exec .isrExit { atIsr .exit with cursor := 64 }) (·.cursor) = some 0 ∧
    see (exec .cwRejectCursor { atMain .cwRejectCursor with cursor := 1 }) (·.cursor) = some 0 := by decide

/-- ReadySetByIsrExitClearedByMain: set by each path of ISR_EXIT, cleared by each of the three. -/
theorem wit_ReadySetByIsrExitClearedByMain :
    see (exec .isrExit { atIsr .exit with cursor := 64 }) (·.ready) = some true ∧
    see (exec .isrExit { atIsr .exit with
      cursor := 1, isrTout := true, cfg := { s0.cfg with timeoutPolicy := .flushPartial } }) (·.ready) = some true ∧
    see (exec .cwRejectReady { atMain .cwRejectReady with ready := true }) (·.ready) = some false ∧
    see (exec .ctClear { atMain .ctClear with ready := true }) (·.ready) = some false ∧
    see (exec .sClear { atMain .sClear with ready := true }) (·.ready) = some false := by decide

/-- DeadlineIsCountedByTickAlone: an expired deadline, and a step that is not TICK. -/
theorem wit_DeadlineIsCountedByTickAlone :
    isNext (exec .tick { s0 with dlCount := 0, dlExpired := true }) = true ∧
    isNext (exec .cwTestReady s0) = true ∧ Instr.cwTestReady ≠ .tick := by decide

/-- WatchdogStartsAtAcceptAndIsKicked: a start, an accept and a kick that change the count, a count. -/
theorem wit_WatchdogStartsAtAcceptAndIsKicked :
    see (exec .cwDecide { atMain .cwDecide with cmdWord := some 0xAE }) (·.wdtEnabled) = some true ∧
    s0.wdtEnabled = false ∧
    see (exec .cwDecide { atMain .cwDecide with cmdWord := some 0xAE, wdtCount := 1 }) (·.wdtCount) = some 2 ∧
    see (exec .sKick { atMain .sKick with wdtEnabled := true, wdtCount := 1 }) (·.wdtCount) = some 2 ∧
    see (exec .tick { s0 with wdtEnabled := true }) (·.wdtCount) = some 1 := by decide

/-- PhasesChangeOnlyByAcceptBootAndReset: each of the three ways. -/
theorem wit_PhasesChangeOnlyByAcceptBootAndReset :
    (see (exec .cwDecide { atMain .cwDecide with cmdWord := some 0xAE }) State.phase = some .connectTail ∧
      (atMain .cwDecide).phase = .connectWait) ∧
    (see (exec .cwDeadline { atMain .cwDeadline with dlExpired := true }) State.phase = some .booted ∧
      (atMain .cwDeadline).phase = .connectWait) ∧
    (see (exec .ctClear { atMain .ctClear with ready := true }) State.phase = some .session ∧
      (atMain .ctClear).phase = .connectTail) := by decide

/-- FaultsNameTheLowestUnwrittenCell: a fault from each of the three steps. -/
theorem wit_FaultsNameTheLowestUnwrittenCell :
    see (exec .cwRead (atMain .cwRead)) (·.fault) = some (some { code := .unwrittenRead, space := .rxBuf, addr := 0 }) ∧
    see (exec .sParseBegin { atMain .sParseBegin with rxBuf := Memory.ofBytes 0 (count 63) }) (·.fault)
      = some (some { code := .unwrittenRead, space := .rxBuf, addr := 63 }) ∧
    see (exec .sTx { atMain .sTx with txIndex := 63 }) (·.fault)
      = some (some { code := .unwrittenRead, space := .respBuf, addr := 63 }) := by decide

theorem wit_EveryStepKeepsTheInvariant : (withWord 0x3000).Inv ∧ isNext (step (withWord 0x3000)) = true :=
  ⟨withWord_inv _, by decide⟩

theorem wit_EveryStepKeepsMemoryCanonical :
    (withWord 0x3000).Canonical ∧ isNext (step (withWord 0x3000)) = true :=
  ⟨(withWord_inv _).canonical, by decide⟩

theorem wit_NoFaultUnderDiscardPartial :
    (withWord 0x5000).Inv ∧ (withWord 0x5000).cfg.timeoutPolicy = .discardPartial ∧ (withWord 0x5000).Safe ∧
    isNext (step (withWord 0x5000)) = true :=
  ⟨withWord_inv _, by decide, rfl, by decide⟩

/-- One byte that completes the packet, and one that does not. -/
theorem wit_PacketsAssembleUnderAnySchedule :
    ({ s0 with cursor := 63 }.isrPc = .idle ∧ { s0 with cursor := 63 }.cursor.toNat + 1 = 64 ∧
      arrivals [.rxByte 7, .isrEntry, .isrDrain, .isrDrain] = [7] ∧
      (runUndisturbed ([.rxByte 7, .isrEntry, .isrDrain, .isrDrain] ++ [.isrExit]) { s0 with cursor := 63 }).map
        (fun t => (t.rxFifo, t.ready, t.cursor)) = some ([], true, 0)) ∧
    ((runUndisturbed ([.rxByte 7, .isrEntry, .isrDrain, .cwTestReady, .isrDrain] ++ [.isrExit]) s0) = none ∧
      (runUndisturbed ([.rxByte 7, .tick, .isrEntry, .isrDrain, .isrDrain] ++ [.isrExit]) s0).map
        (fun t => (t.rxFifo, t.ready, t.cursor)) = some ([], false, 1)) := by decide

theorem wit_FullPacketIsDeliveredInArrivalOrder :
    s0.Running ∧ s0.isrPc = .idle ∧ s0.cursor.toNat = 0 ∧ s0.rxFifo = [] ∧ s0.rxToutPending = false ∧
    1 ≤ s0.cfg.rxFifoDepth := by decide

theorem wit_ShortPacketIsDiscardedWhole :
    s0.Running ∧ s0.isrPc = .idle ∧ s0.cursor.toNat = 0 ∧ s0.rxFifo = [] ∧ s0.rxToutPending = false ∧
    s0.ready = false ∧ 1 ≤ s0.cfg.rxFifoDepth ∧ s0.cfg.timeoutPolicy = .discardPartial ∧
    (0 < (count 1).length ∧ (count 1).length < 64) ∧ (0 < (count 63).length ∧ (count 63).length < 64) := by decide

/-- The buffer filled exactly, room left over, and no byte but a timeout. -/
theorem wit_InterruptRunDrainsUpToCapacity :
    ({ s0 with cursor := 63, rxFifo := [1, 2] }.Running ∧ { s0 with cursor := 63, rxFifo := [1, 2] }.rxFifo ≠ [] ∧
      63 + min 2 (64 - 63) = 64) ∧
    ({ s0 with cursor := 5, rxFifo := [1] }.cursor.toNat ≤ 64 ∧ 5 + min 1 (64 - 5) < 64 ∧
      { s0 with cursor := 5, rxFifo := [1] }.rxToutPending = false) ∧
    ({ s0 with rxToutPending := true }.rxToutPending = true ∧ { s0 with rxToutPending := true }.isrPc = .idle) := by
  decide

theorem wit_ResponseReachesTheLineInOrder :
    { atMain .sTx with respBuf := rampBuf }.AtMain .sTx ∧ (atMain .sTx).txIndex.toNat = 0 ∧
    (atMain .sTx).txFifo = [] ∧ 1 ≤ s0.cfg.txFifoDepth ∧
    (∀ (a : Nat) (h : a < 64), Memory.read rampBuf a = some ramp[a]) := by decide

theorem wit_ReadyPacketIsParsedWhole :
    { atMain .sPoll with ready := true, rxBuf := rampBuf }.AtMain .sPoll ∧
    { atMain .sPoll with ready := true, rxBuf := rampBuf }.ready = true ∧
    (∀ (a : Nat) (h : a < 64), Memory.read rampBuf a = some ramp[a]) ∧
    { atMain .sPoll with wdtEnabled := true }.wdtEnabled = true := by decide

/-- The code seen through the flag, and through the cursor at the boundary of the peek. -/
theorem wit_ConnectIsAcceptedInFourSteps :
    { s0 with ready := true }.AtMain .cwTestReady ∧ { s0 with ready := true }.ready = true ∧
    { s0 with cursor := 4 }.AtMain .cwTestReady ∧ 4 ≤ { s0 with cursor := 4 }.cursor.toNat ∧
    Memory.read (Memory.ofBytes 0 [0xAE, 0, 0, 0]) 0 = some 0xAE ∧
    Memory.read (Memory.ofBytes 0 [0xAE, 0, 0, 0]) 1 = some 0 ∧
    Memory.read (Memory.ofBytes 0 [0xAE, 0, 0, 0]) 2 = some 0 ∧
    Memory.read (Memory.ofBytes 0 [0xAE, 0, 0, 0]) 3 = some 0 ∧
    s0.cfg.connectCode = 0#8 ++ 0#8 ++ 0#8 ++ 0xAE#8 := by decide

/-- A state in Phase A whose deadline has expired. -/
def expired : State := { s0 with dlCount := 0, dlExpired := true }

theorem wit_ExpiredDeadlineEndsPhaseA :
    expired.Inv ∧ expired.cfg.timeoutPolicy = .discardPartial ∧ expired.Safe ∧ expired.isrPc = .idle ∧
    expired.phase = .connectWait ∧ expired.dlExpired = true := by
  refine ⟨?_, by decide, rfl, rfl, rfl, rfl⟩
  constructor
  case canonical => constructor <;> decide
  all_goals decide

/-- The deadline before its last tick, on it, and past it. -/
theorem wit_DeadlineExpiresOnItsLastTick :
    s0.Running ∧ s0.wdtEnabled = false ∧ (s0.dlExpired = true ↔ s0.dlCount = 0) ∧
    (2 < s0.dlCount.toNat ∧ s0.dlCount.toNat ≤ 3 ∧ s0.dlCount.toNat ≤ 4) := by decide

theorem wit_WatchdogResetsOnItsLastTick :
    { s0 with wdtEnabled := true }.Running ∧ { s0 with wdtEnabled := true }.wdtEnabled = true ∧
    { s0 with wdtEnabled := true }.wdtCount.toNat = 1 + 1 ∧
    { s0 with wdtEnabled := true, wdtCount := 1 }.wdtCount.toNat = 0 + 1 := by decide

theorem wit_ObservedElementsInfluenceNothing :
    s0.forgetObserved = { s0 with rxOverflow := true, txOut := [1], lastResetCause := .external }.forgetObserved := by
  decide

theorem wit_DeadlineInfluencesOnlyCwDeadline :
    s0.forgetDeadline = expired.forgetDeadline ∧ Instr.tick ≠ .cwDeadline := by decide

end Sys2Proof.Tests
end

section
/-! PROOF. The scope of a step (spec 00_scope R15, R18; 30_encoding R74, R75): the global guard stands before every
step, no step touches the trace, and the machine's step is the decoded meaning moved past its word. -/

namespace Sys2Proof.Machine

/-! ### The global guard -/

theorem State.running_of_mainAt {s : State} {m : MainPc} (h : s.mainAt m = true) : s.Running := by
  simp only [State.mainAt, Bool.and_eq_true, State.active_iff] at h
  obtain ⟨⟨hrun, -⟩, -⟩ := h
  exact hrun

theorem State.running_of_isrAt {s : State} {p : IsrPc} (h : s.isrAt p = true) : s.Running :=
  ((s.isrAt_iff p).1 h).1

/-- Every step is a guarded one, and its guard contains the global guard (00_scope R15). -/
theorem exec_eq_takeIf_running (i : Instr) (s : State) :
    ∃ g o, exec i s = takeIf g s o ∧ (g = true → s.Running) := by
  cases i
  case rxByte | rxSilence | txTake | tick | extReset => exact ⟨_, _, rfl, s.active_iff.1⟩
  case isrEntry => exact ⟨_, _, rfl, fun h => State.running_of_isrAt (Bool.and_elim_left h)⟩
  case isrDrain | isrExit => exact ⟨_, _, rfl, State.running_of_isrAt⟩
  all_goals exact ⟨_, _, rfl, State.running_of_mainAt⟩

theorem exec_of_not_running {s : State} (i : Instr) (h : ¬ s.Running) :
    exec i s = .refused (.notEnabled s.tracePos) := by
  obtain ⟨g, o, hexec, hg⟩ := exec_eq_takeIf_running i s
  obtain rfl : g = false := Bool.eq_false_iff.2 (mt hg h)
  rw [hexec, takeIf_false]

/-- Settles O9: a faulted state and BOOTED fail the global guard, which every step has. -/
theorem faultedAndBootedHaveNoSteps : Obligations.FaultedAndBootedHaveNoSteps := by
  intro i s h
  refine exec_of_not_running i ?_
  rintro ⟨hfault, hbooted⟩
  exact h.elim (· hfault) hbooted

/-! ### The trace -/

/-- No step changes the parameters, the trace or the position (assumption logs 2, 3). -/
theorem exec_keeps_cfg_and_trace {i : Instr} {s t : State} (h : exec i s = .next t) :
    t.cfg = s.cfg ∧ t.trace = s.trace ∧ t.tracePos = s.tracePos := by
  cases i
  case txTake => obtain ⟨-, b, rest, -, rfl⟩ := execTxTake_eq_next.1 h; exact ⟨rfl, rfl, rfl⟩
  case isrDrain =>
    obtain ⟨-, ⟨b, rest, -, -, rfl⟩ | ⟨-, rfl⟩⟩ := execIsrDrain_eq_next.1 h <;> exact ⟨rfl, rfl, rfl⟩
  case cwRead =>
    obtain ⟨-, ⟨bs, -, rfl⟩ | ⟨r, -, rfl⟩⟩ := execCwRead_eq_next.1 h <;> exact ⟨rfl, rfl, rfl⟩
  case sParseBegin =>
    obtain ⟨-, ⟨p, -, rfl⟩ | ⟨r, -, rfl⟩⟩ := execSParseBegin_eq_next.1 h <;> exact ⟨rfl, rfl, rfl⟩
  case sTx =>
    obtain ⟨-, ⟨-, rfl⟩ | ⟨-, -, ⟨b, -, rfl⟩ | ⟨-, rfl⟩⟩⟩ := execSTx_eq_next.1 h <;> exact ⟨rfl, rfl, rfl⟩
  case rxByte | tick | cwDecide | sPoll =>
    obtain ⟨-, rfl⟩ := takeIf_next_eq_next.1 h
    split <;> exact ⟨rfl, rfl, rfl⟩
  -- Every other step is one update of the state, whatever it finds there.
  all_goals
    obtain ⟨-, rfl⟩ := takeIf_next_eq_next.1 h
    exact ⟨rfl, rfl, rfl⟩

/-! ### The machine's step -/

theorem step_of_decode {s : State} {w : Word} {rest : List Word} {i : Instr} (htrace : s.trace = w :: rest)
    (hdecode : decode w = .step i) : step s = advanceOutcome (exec i s) := by
  simp [step, State.nextWord, htrace, hdecode]

/-- A step that is taken leaves exactly the words after its own. -/
theorem advance_of_exec {s t : State} {w : Word} {rest : List Word} {i : Instr} (htrace : s.trace = w :: rest)
    (h : exec i s = .next t) : t.advance = { t with trace := rest, tracePos := s.tracePos + 1 } := by
  obtain ⟨-, ht, hpos⟩ := exec_keeps_cfg_and_trace h
  rw [State.advance, ht, hpos, htrace, List.tail_cons]

/-- Settles O4: the step is the decoded meaning's outcome advanced, and the meaning left the trace as it was. -/
theorem stepRunsTheDecodedWord : Obligations.StepRunsTheDecodedWord := by
  intro s w rest i htrace hdecode
  rw [step_of_decode htrace hdecode]
  refine ⟨fun t h => ?_, fun f h => ?_, fun r h => ?_⟩
  · rw [← advance_of_exec htrace h, h, advanceOutcome]
  · rw [h, advanceOutcome]
  · rw [h, advanceOutcome]

end Sys2Proof.Machine
end

section
/-! PROOF. What a step can do: the transitions short of a reset as one relation (41_framer to 44_timers_reset), with
the inversion of `exec` into it. A fact about every such step is a case split over this relation. -/

namespace Sys2Proof.Machine

/-- `s.Takes i t`: the step `i` leads from `s` to `t`, short of a reset, under the stated part of its guard. -/
inductive State.Takes (s : State) : Instr → State → Prop
  /-- RX_BYTE with room (R100). -/
  | byteQueued {b} (hroom : s.rxFifo.length < s.cfg.rxFifoDepth) :
      Takes s (.rxByte b) { s with rxFifo := s.rxFifo ++ [b] }
  /-- RX_BYTE at the depth (R100). -/
  | byteLost {b} (hfull : s.cfg.rxFifoDepth ≤ s.rxFifo.length) : Takes s (.rxByte b) { s with rxOverflow := true }
  /-- RX_SILENCE (R101). -/
  | silence : Takes s .rxSilence { s with rxToutPending := true }
  /-- TX_TAKE (R146). -/
  | txTaken {b rest} (hfifo : s.txFifo = b :: rest) :
      Takes s .txTake { s with txFifo := rest, txOut := s.txOut ++ [b] }
  /-- TICK short of the watchdog's reset (R160). -/
  | ticked (hlive : s.wdtEnabled = true → s.wdtCount.toNat ≠ 1) : Takes s .tick s.countWdt.countDeadline
  /-- ISR_ENTRY (R103). -/
  | isrEntered (hidle : s.isrPc = .idle) (hreq : s.rxFifo ≠ [] ∨ s.rxToutPending = true) : Takes s .isrEntry s.enterIsr
  /-- ISR_DRAIN with a byte and room (R104). -/
  | byteDrained {b rest} (hat : s.isrPc = .drain) (hfifo : s.rxFifo = b :: rest) (hroom : s.cursor.toNat < 64) :
      Takes s .isrDrain (s.drainByte b rest)
  /-- ISR_DRAIN at the end of its loop (R104). -/
  | drainEnded (hat : s.isrPc = .drain) (hend : s.rxFifo = [] ∨ 64 ≤ s.cursor.toNat) : Takes s .isrDrain s.endDrain
  /-- ISR_EXIT (R105). -/
  | isrLeft (hat : s.isrPc = .exit) : Takes s .isrExit s.closePacket.leaveIsr
  /-- CW_TEST_READY with the flag set (R120). -/
  | readySeen (hat : s.AtMain .cwTestReady) (hready : s.ready = true) : Takes s .cwTestReady (s.goMain .cwRead)
  /-- CW_TEST_READY with the flag clear (R120). -/
  | readyMissed (hat : s.AtMain .cwTestReady) (hready : s.ready = false) : Takes s .cwTestReady (s.goMain .cwTestCursor)
  /-- CW_TEST_CURSOR with the four bytes in (R121). -/
  | peekSeen (hat : s.AtMain .cwTestCursor) (hpeek : 4 ≤ s.cursor.toNat) : Takes s .cwTestCursor (s.goMain .cwRead)
  /-- CW_TEST_CURSOR with fewer bytes (R121). -/
  | peekMissed (hat : s.AtMain .cwTestCursor) (hpeek : s.cursor.toNat < 4) :
      Takes s .cwTestCursor (s.goMain .cwDeadline)
  /-- CW_READ (R122). -/
  | cmdRead {bs} (hat : s.AtMain .cwRead) (hmem : s.memRead .rxBuf 0 peekBytes = .ok bs) :
      Takes s .cwRead (s.latchCmd (le32 bs))
  /-- CW_READ of an UNWRITTEN cell (R122, R170). -/
  | cmdFaulted {r} (hat : s.AtMain .cwRead) (hmem : s.memRead .rxBuf 0 peekBytes = .error r) :
      Takes s .cwRead (s.raiseFault r)
  /-- CW_DECIDE on CONNECT (R123). -/
  | accepted (hat : s.AtMain .cwDecide) (hcmd : s.cmdWord = some s.cfg.connectCode) :
      Takes s .cwDecide (s.startWdt.goMain s.acceptTarget)
  /-- CW_DECIDE on any other code (R123). -/
  | rejected (hat : s.AtMain .cwDecide) (hcmd : s.cmdWord ≠ some s.cfg.connectCode) :
      Takes s .cwDecide (s.goMain .cwRejectReady)
  /-- CW_REJECT_READY (R125). -/
  | readyRejected (hat : s.AtMain .cwRejectReady) :
      Takes s .cwRejectReady { s with ready := false, mainPc := .cwRejectCursor }
  /-- CW_REJECT_CURSOR (R126). -/
  | cursorRejected (hat : s.AtMain .cwRejectCursor) :
      Takes s .cwRejectCursor { s with cursor := 0, mainPc := .cwDeadline }
  /-- CW_DEADLINE with the deadline expired (R127). -/
  | bootedOff (hat : s.AtMain .cwDeadline) (hexp : s.dlExpired = true) : Takes s .cwDeadline (s.goMain .booted)
  /-- CW_DEADLINE before the deadline (R127). -/
  | waitedOn (hat : s.AtMain .cwDeadline) (hexp : s.dlExpired = false) : Takes s .cwDeadline (s.goMain .cwTestReady)
  /-- CT_POLL_CURSOR (R128). -/
  | tailCursorPolled (hat : s.AtMain .ctPollCursor) :
      Takes s .ctPollCursor { s with ctZero := s.cursorZero, mainPc := .ctPollReady }
  /-- CT_POLL_READY with the flag set (R129). -/
  | tailReady (hat : s.AtMain .ctPollReady) (hready : s.ready = true) : Takes s .ctPollReady (s.goMain .ctClear)
  /-- CT_POLL_READY with the flag clear and the cursor seen at 0 (R129). -/
  | tailEmpty (hat : s.AtMain .ctPollReady) (hready : s.ready = false) (hzero : s.ctZero = true) :
      Takes s .ctPollReady (s.goMain .sPoll)
  /-- CT_POLL_READY with neither (R129). -/
  | tailWaited (hat : s.AtMain .ctPollReady) (hready : s.ready = false) (hzero : s.ctZero = false) :
      Takes s .ctPollReady (s.goMain .ctPollCursor)
  /-- CT_CLEAR (R130). -/
  | tailCleared (hat : s.AtMain .ctClear) : Takes s .ctClear { s with ready := false, mainPc := .sPoll }
  /-- S_POLL with the flag set (R140). -/
  | pollSeen (hat : s.AtMain .sPoll) (hready : s.ready = true) : Takes s .sPoll (s.goMain .sKick)
  /-- S_POLL with the flag clear (R140). -/
  | pollSpun (hat : s.AtMain .sPoll) (hready : s.ready = false) : Takes s .sPoll s
  /-- S_KICK (R141). -/
  | kicked (hat : s.AtMain .sKick) : Takes s .sKick { s with wdtCount := s.wdtCountAfterKick, mainPc := .sClear }
  /-- S_CLEAR (R142). -/
  | cleared (hat : s.AtMain .sClear) : Takes s .sClear { s with ready := false, mainPc := .sParseBegin }
  /-- S_PARSE_BEGIN (R143). -/
  | parseOpened {p} (hat : s.AtMain .sParseBegin) (hmem : s.memRead .rxBuf 0 pktSize = .ok p) :
      Takes s .sParseBegin (s.openParse p)
  /-- S_PARSE_BEGIN on an UNWRITTEN cell (R143, R170). -/
  | parseFaulted {r} (hat : s.AtMain .sParseBegin) (hmem : s.memRead .rxBuf 0 pktSize = .error r) :
      Takes s .sParseBegin (s.raiseFault r)
  /-- S_PARSE_END (R144). -/
  | parseClosed (hat : s.AtMain .sParseEnd) : Takes s .sParseEnd s.closeParse
  /-- S_TX with the FIFO full (R145). -/
  | txSpun (hat : s.AtMain .sTx) (hfull : s.txFifo.length = s.cfg.txFifoDepth) : Takes s .sTx s
  /-- S_TX of a byte (R145). -/
  | txPushed {b} (hat : s.AtMain .sTx) (hroom : s.txFifo.length ≠ s.cfg.txFifoDepth) (hidx : s.txIndex.toNat < 64)
      (hmem : Memory.read s.respBuf s.txIndex.toNat = some b) : Takes s .sTx (s.pushTx b)
  /-- S_TX of an UNWRITTEN cell (R145, R170). -/
  | txFaulted (hat : s.AtMain .sTx) (hroom : s.txFifo.length ≠ s.cfg.txFifoDepth) (hidx : s.txIndex.toNat < 64)
      (hmem : Memory.read s.respBuf s.txIndex.toNat = none) :
      Takes s .sTx (s.raiseFault { code := .unwrittenRead, space := .respBuf, addr := s.txIndex.toNat })

theorem State.AtMain.mainPc {s : State} {m : MainPc} (h : s.AtMain m) : s.mainPc = m := h.2.2

theorem State.AtMain.phase {s : State} {m : MainPc} (h : s.AtMain m) : s.phase = m.phase :=
  congrArg MainPc.phase h.mainPc

theorem State.resets_tick_iff (s : State) : s.Resets .tick ↔ s.wdtExpires = true := by
  simp [State.Resets, State.wdtExpires]

/-- A step that resets the block leaves exactly the state of a reset (R160, R161). -/
theorem exec_of_resets {i : Instr} {s t : State} (h : exec i s = .next t) (hreset : s.Resets i) :
    ∃ cause, t = s.doReset cause := by
  obtain rfl | ⟨rfl, hexpires⟩ := id hreset
  · exact ⟨.external, (execExtReset_eq_next.1 h).2⟩
  · obtain ⟨-, rfl⟩ := execTick_eq_next.1 h
    exact ⟨.watchdog, if_pos (s.resets_tick_iff.1 hreset)⟩

/-- Every step that completes short of a reset is one of the transitions of `State.Takes`. -/
theorem takes_of_exec {i : Instr} {s t : State} (h : exec i s = .next t) (hreset : ¬ s.Resets i) : s.Takes i t := by
  cases i
  case extReset => exact absurd (.inl rfl) hreset
  case tick =>
    obtain ⟨-, rfl⟩ := execTick_eq_next.1 h
    rw [State.resets_tick_iff] at hreset
    rw [if_neg hreset]
    exact .ticked fun hrun hone => hreset (s.wdtExpires_iff.2 ⟨hrun, hone⟩)
  case rxByte =>
    obtain ⟨-, rfl⟩ := execRxByte_eq_next.1 h
    split
    case isTrue hroom => exact .byteQueued (s.rxHasRoom_iff.1 hroom)
    case isFalse hroom => exact .byteLost (Nat.not_lt.1 (mt s.rxHasRoom_iff.2 hroom))
  case rxSilence => obtain ⟨-, rfl⟩ := execRxSilence_eq_next.1 h; exact .silence
  case txTake => obtain ⟨-, b, rest, hfifo, rfl⟩ := execTxTake_eq_next.1 h; exact .txTaken hfifo
  case isrEntry => obtain ⟨⟨-, hidle⟩, hreq, rfl⟩ := execIsrEntry_eq_next.1 h; exact .isrEntered hidle hreq
  case isrDrain =>
    obtain ⟨⟨-, hat⟩, ⟨b, rest, hfifo, hroom, rfl⟩ | ⟨hend, rfl⟩⟩ := execIsrDrain_eq_next.1 h
    exacts [.byteDrained hat hfifo hroom, .drainEnded hat hend]
  case isrExit => obtain ⟨⟨-, hat⟩, rfl⟩ := execIsrExit_eq_next.1 h; exact .isrLeft hat
  case cwTestReady =>
    obtain ⟨hat, rfl⟩ := execCwTestReady_eq_next.1 h
    split
    exacts [.readySeen hat ‹_›, .readyMissed hat (Bool.eq_false_iff.2 ‹_›)]
  case cwTestCursor =>
    obtain ⟨hat, rfl⟩ := execCwTestCursor_eq_next.1 h
    split
    case isTrue hpeek => exact .peekSeen hat (s.peekReady_iff.1 hpeek)
    case isFalse hpeek => exact .peekMissed hat (Nat.not_le.1 (mt s.peekReady_iff.2 hpeek))
  case cwRead =>
    obtain ⟨hat, ⟨bs, hmem, rfl⟩ | ⟨r, hmem, rfl⟩⟩ := execCwRead_eq_next.1 h
    exacts [.cmdRead hat hmem, .cmdFaulted hat hmem]
  case cwDecide =>
    obtain ⟨hat, rfl⟩ := execCwDecide_eq_next.1 h
    split
    case isTrue hcmd => exact .accepted hat (s.cmdIsConnect_iff.1 hcmd)
    case isFalse hcmd => exact .rejected hat (mt s.cmdIsConnect_iff.2 hcmd)
  case cwRejectReady => obtain ⟨hat, rfl⟩ := execCwRejectReady_eq_next.1 h; exact .readyRejected hat
  case cwRejectCursor => obtain ⟨hat, rfl⟩ := execCwRejectCursor_eq_next.1 h; exact .cursorRejected hat
  case cwDeadline =>
    obtain ⟨hat, rfl⟩ := execCwDeadline_eq_next.1 h
    split
    exacts [.bootedOff hat ‹_›, .waitedOn hat (Bool.eq_false_iff.2 ‹_›)]
  case ctPollCursor => obtain ⟨hat, rfl⟩ := execCtPollCursor_eq_next.1 h; exact .tailCursorPolled hat
  case ctPollReady =>
    obtain ⟨hat, rfl⟩ := execCtPollReady_eq_next.1 h
    split
    · exact .tailReady hat ‹_›
    · split
      exacts [.tailEmpty hat (Bool.eq_false_iff.2 ‹_›) ‹_›,
        .tailWaited hat (Bool.eq_false_iff.2 ‹_›) (Bool.eq_false_iff.2 ‹_›)]
  case ctClear => obtain ⟨hat, rfl⟩ := execCtClear_eq_next.1 h; exact .tailCleared hat
  case sPoll =>
    obtain ⟨hat, ht⟩ := execSPoll_eq_next.1 h
    split at ht
    · subst ht; exact .pollSeen hat ‹_›
    · subst ht; exact .pollSpun hat (Bool.eq_false_iff.2 ‹_›)
  case sKick => obtain ⟨hat, rfl⟩ := execSKick_eq_next.1 h; exact .kicked hat
  case sClear => obtain ⟨hat, rfl⟩ := execSClear_eq_next.1 h; exact .cleared hat
  case sParseBegin =>
    obtain ⟨hat, ⟨p, hmem, rfl⟩ | ⟨r, hmem, rfl⟩⟩ := execSParseBegin_eq_next.1 h
    exacts [.parseOpened hat hmem, .parseFaulted hat hmem]
  case sParseEnd => obtain ⟨hat, rfl⟩ := execSParseEnd_eq_next.1 h; exact .parseClosed hat
  case sTx =>
    obtain ⟨hat, ⟨hfull, rfl⟩ | ⟨hroom, hidx, ⟨b, hmem, rfl⟩ | ⟨hmem, rfl⟩⟩⟩ := execSTx_eq_next.1 h
    exacts [.txSpun hat hfull, .txPushed hat hroom hidx hmem, .txFaulted hat hroom hidx hmem]

end Sys2Proof.Machine
end

section
/-! PROOF. Who writes what (10_state R21 to R39): each element of the state is changed by the few transitions that
name it, and every other transition leaves it as it was by definition. -/

namespace Sys2Proof.Machine

/-! ### The values a step computes -/

/-- ISR_EXIT keeps the cursor or returns it to 0 (R105). -/
theorem State.cursorAtExit_eq_or (s : State) : s.cursorAtExit = s.cursor ∨ s.cursorAtExit = 0 := by
  simp only [State.cursorAtExit]
  split
  · exact .inr rfl
  · split
    exacts [.inr rfl, .inl rfl]

/-- ISR_EXIT keeps `ready` or sets it, on the full-packet path or on the flush of FLUSH_PARTIAL (R105, R106). -/
theorem State.readyAtExit_iff (s : State) :
    s.readyAtExit = true ↔ s.ready = true ∨ s.cursor.toNat = 64 ∨
      (s.cfg.timeoutPolicy = .flushPartial ∧ s.isrTout = true ∧ 0 < s.cursor.toNat) := by
  simp only [State.readyAtExit]
  split
  case isTrue hfull => simp [s.packetFull_iff.1 hfull]
  case isFalse hfull =>
    rw [State.packetFull_iff] at hfull
    split
    case isTrue hdue =>
      obtain ⟨htout, hpartial⟩ := s.flushDue_iff.1 hdue
      cases hpolicy : s.cfg.timeoutPolicy <;> simp [State.readyAfterFlush, hpolicy, htout, hpartial, hfull]
    case isFalse hdue =>
      rw [State.flushDue_iff] at hdue
      simp [hfull, hdue]

/-- A kick loads a running watchdog and leaves the count of a stopped one (R141). -/
theorem State.wdtCountAfterKick_of_running {s : State} (h : s.wdtEnabled = true) :
    s.wdtCountAfterKick = s.cfg.wdtTimeoutTicks := if_pos h

theorem State.wdtCountAfterKick_of_stopped {s : State} (h : s.wdtEnabled = false) : s.wdtCountAfterKick = s.wdtCount :=
  if_neg (Bool.eq_false_iff.1 h)

/-! ### Buffers, cursor, flag and FIFO -/

/-- Settles O32: the one transition that writes the buffer is the drain of a byte, at the cursor. -/
theorem onlyIsrDrainWritesTheReceiveBuffer : Obligations.OnlyIsrDrainWritesTheReceiveBuffer := by
  intro i s t h hreset a
  cases takes_of_exec h hreset with
  | byteDrained hat hfifo hroom =>
    rw [State.drainByte_rxBuf, Memory.read_write]
    split
    case isTrue ha => subst ha; exact .inr ⟨rfl, rfl, hroom, by simp [hfifo], by simp [hfifo]⟩
    case isFalse => exact .inl rfl
  | _ => exact .inl rfl

/-- Settles O33: the latch is written where the parse window opens, the Response Buffer where it closes. -/
theorem onlyTheParseStepsWriteLatchAndResponse : Obligations.OnlyTheParseStepsWriteLatchAndResponse := by
  intro i s t h hreset
  cases takes_of_exec h hreset with
  | parseOpened => exact ⟨fun hi => absurd rfl hi, fun _ _ => rfl⟩
  | parseClosed => exact ⟨fun _ _ => rfl, fun hi => absurd rfl hi⟩
  | _ => exact ⟨fun _ _ => rfl, fun _ _ => rfl⟩

/-- Settles O34: the drain moves the cursor up, the exit and the reject return it to 0. -/
theorem cursorMovesOnlyByDrainExitAndReject : Obligations.CursorMovesOnlyByDrainExitAndReject := by
  intro i s t h hreset hmoved
  cases takes_of_exec h hreset with
  | byteDrained hat hfifo hroom => exact .inl ⟨rfl, hroom, index_succ_toNat hroom⟩
  | isrLeft hat =>
    have hzero : s.cursorAtExit = 0 := s.cursorAtExit_eq_or.resolve_left hmoved
    exact .inr ⟨.inl rfl, index_eq_zero_iff.1 hzero⟩
  | cursorRejected hat => exact .inr ⟨.inr rfl, rfl⟩
  | _ => exact absurd rfl hmoved

/-- Settles O35: the exit alone sets the flag, and only the two rejects' and the two loops' clears clear it. -/
theorem readySetByIsrExitClearedByMain : Obligations.ReadySetByIsrExitClearedByMain := by
  intro i s t h hreset
  have unchanged {P Q : Prop} {b : Bool} : (b = false → b = true → P) ∧ (b = true → b = false → Q) := by
    cases b <;> simp
  cases takes_of_exec h hreset with
  | isrLeft hat =>
    refine ⟨fun hclear hset => ⟨rfl, ?_⟩, fun hset hclear => ?_⟩
    · obtain hready | hfull | ⟨hpolicy, htout, -⟩ := s.readyAtExit_iff.1 hset
      · simp [hclear] at hready
      · exact .inl hfull
      · exact .inr ⟨hpolicy, htout⟩
    · have hkept : s.readyAtExit = true := s.readyAtExit_iff.2 (.inl hset)
      exact absurd (hclear.symm.trans hkept) (by decide)
  | readyRejected hat => exact ⟨fun _ => nofun, fun _ _ => .inl rfl⟩
  | tailCleared hat => exact ⟨fun _ => nofun, fun _ _ => .inr (.inl rfl)⟩
  | cleared hat => exact ⟨fun _ => nofun, fun _ _ => .inr (.inr rfl)⟩
  | _ => exact unchanged

/-- Settles O36: RX_BYTE with room appends, the drain of a byte takes the front. -/
theorem receiveFifoPushesAndPopsInOrder : Obligations.ReceiveFifoPushesAndPopsInOrder := by
  intro i s t h hreset
  cases takes_of_exec h hreset with
  | byteQueued hroom => exact .inr (.inl ⟨_, rfl, hroom, rfl⟩)
  | byteDrained hat hfifo hroom => exact .inr (.inr ⟨rfl, by simp [hfifo], by simp [hfifo]⟩)
  | _ => exact .inl rfl

/-! ### Timers and phases -/

/-- Settles O37: the tick that counts takes one off, and its flag is sticky. -/
theorem deadlineIsCountedByTickAlone : Obligations.DeadlineIsCountedByTickAlone := by
  intro i s t h hreset
  cases takes_of_exec h hreset with
  | ticked hlive =>
    exact ⟨fun hi => absurd rfl hi, s.dlCountAfterTick_toNat, fun hexp => s.dlExpiredAfterTick_iff.2 (.inl hexp)⟩
  | _ => exact ⟨fun _ => ⟨rfl, rfl⟩, rfl, id⟩

/-- Settles O38: the accept starts and loads the watchdog under AT_PHASE_B, the kick loads it, the tick counts it. -/
theorem watchdogStartsAtAcceptAndIsKicked : Obligations.WatchdogStartsAtAcceptAndIsKicked := by
  intro i s t h hreset
  have notStarted {P : Prop} (hoff : s.wdtEnabled = false) (hon : s.wdtEnabled = true) : P :=
    absurd (hoff.symm.trans hon) (by decide)
  cases takes_of_exec h hreset with
  | accepted hat hcmd =>
    by_cases hmode : s.cfg.wdtMode = .atPhaseB
    · exact ⟨fun _ => if_pos hmode, fun _ _ => ⟨rfl, hmode, hcmd⟩, fun _ => .inl ⟨rfl, hmode, hcmd, if_pos hmode⟩⟩
    · have henabled : s.wdtEnabledAtAccept = s.wdtEnabled := if_neg hmode
      have hcount : s.wdtCountAtAccept = s.wdtCount := if_neg hmode
      exact ⟨henabled.trans, fun hoff hon => notStarted hoff (henabled.symm.trans hon), fun hne => absurd hcount hne⟩
  | kicked hat =>
    refine ⟨id, notStarted, fun hne => ?_⟩
    cases hrun : s.wdtEnabled with
    | true => exact .inr (.inl ⟨rfl, rfl, State.wdtCountAfterKick_of_running hrun⟩)
    | false => exact absurd (State.wdtCountAfterKick_of_stopped hrun) hne
  | ticked hlive =>
    refine ⟨id, notStarted, fun hne => ?_⟩
    cases hrun : s.wdtEnabled with
    | true => exact .inr (.inr ⟨rfl, rfl⟩)
    | false => exact absurd (State.wdtCountAfterTick_stopped hrun) hne
  | _ => exact ⟨id, notStarted, fun hne => absurd rfl hne⟩

/-- Settles O41: only the accept, the boot hand-off and the end of the tail lead to a place of another phase. -/
theorem phasesChangeOnlyByAcceptBootAndReset : Obligations.PhasesChangeOnlyByAcceptBootAndReset := by
  intro i s t h hreset hphase
  cases takes_of_exec h hreset with
  | accepted hat hcmd =>
    refine .inl ⟨hat.phase, rfl, hcmd, ?_⟩
    rw [State.phase, State.goMain_mainPc, State.acceptTarget_eq]
    split <;> rfl
  | bootedOff hat hexp => exact .inr (.inl ⟨hat.phase, rfl, hexp, rfl⟩)
  | tailEmpty hat | tailCleared hat => exact .inr (.inr ⟨hat.phase, rfl⟩)
  | readySeen hat | readyMissed hat | peekSeen hat | peekMissed hat | cmdRead hat | rejected hat | readyRejected hat
  | cursorRejected hat | waitedOn hat | tailCursorPolled hat | tailReady hat | tailWaited hat | pollSeen hat
  | kicked hat | cleared hat | parseOpened hat | parseClosed hat => exact absurd hat.phase.symm hphase
  | txPushed hat =>
    refine absurd ?_ hphase
    rw [hat.phase, State.phase, State.pushTx_mainPc, State.mainPcAfterTx, hat.mainPc]
    split <;> rfl
  | _ => exact absurd rfl hphase

end Sys2Proof.Machine
end

section
/-! PROOF. The invariant of the reachable states (10_state R41): it holds at power-on and every step keeps it. Each
transition restates the few parts it touches; every other part is the old one by definition. -/

namespace Sys2Proof.Machine

/-! ### Written cells -/

theorem Memory.Written.write {m : Memory} {n : Nat} (h : Memory.Written m n) (a : Nat) (b : Byte) :
    Memory.Written (Memory.write m a b) n := by
  intro k hk
  rw [Memory.read_write]
  split
  exacts [rfl, h k hk]

theorem Memory.Written.write_next {m : Memory} {n : Nat} (h : Memory.Written m n) (b : Byte) :
    Memory.Written (Memory.write m n b) (n + 1) := by
  intro k hk
  rw [Memory.read_write]
  split
  exacts [rfl, h k (by omega)]

theorem Memory.Written.mono {m : Memory} {n k : Nat} (h : Memory.Written m n) (hk : k ≤ n) : Memory.Written m k :=
  fun a ha => h a (by omega)

theorem Memory.written_ofPacket (p : Packet) : Memory.Written (Memory.ofPacket p) 64 := by
  intro a ha
  rw [Memory.read_ofPacket p a ha]
  rfl

/-! ### Power-on and reset -/

/-- Settles O43: at power-on nothing is queued or latched, and the counts are loaded with legal values. -/
theorem invariantHoldsAtPowerOn : Obligations.InvariantHoldsAtPowerOn := by
  intro c hc
  have hlegal := hc
  simp only [Config.wellFormed, Bool.and_eq_true, decide_eq_true_eq] at hlegal
  obtain ⟨⟨-, hconnect⟩, hwdt⟩ := hlegal
  constructor
  case params => exact hc
  case deadline => simpa [State.powerOn] using hconnect
  case watchdog => exact fun _ => hwdt
  case canonical => constructor <;> exact Memory.wf_nil
  case dlBound | wdtBound => exact Nat.le_refl _
  case accumulated => exact fun a ha => absurd ha (by simp [State.powerOn])
  -- Every other part speaks of empty queues, of index 0, or of a place that is not CW_TEST_READY.
  all_goals simp +contextual [State.powerOn, State.phase, MainPc.phase]

/-- A reset leaves the block as power-on does, but for elements the invariant does not speak of (R190). -/
theorem State.Inv.doReset {s : State} (hs : s.Inv) (cause : ResetCause) : (s.doReset cause).Inv :=
  have h := invariantHoldsAtPowerOn s.cfg hs.params
  { h with canonical := { h.canonical with } }

/-! ### Transitions of the line, the timer and the interrupt context -/

theorem State.Inv.byteQueued {s : State} (hs : s.Inv) (b : Byte) (hroom : s.rxFifo.length < s.cfg.rxFifoDepth) :
    State.Inv { s with rxFifo := s.rxFifo ++ [b] } :=
  { hs with
    rxFits := by simpa using hroom
    canonical := { hs.canonical with } }

theorem State.Inv.byteLost {s : State} (hs : s.Inv) : State.Inv { s with rxOverflow := true } :=
  { hs with canonical := { hs.canonical with } }

theorem State.Inv.silence {s : State} (hs : s.Inv) : State.Inv { s with rxToutPending := true } :=
  { hs with canonical := { hs.canonical with } }

theorem State.Inv.txTaken {s : State} (hs : s.Inv) {b : Byte} {rest : List Byte} (hfifo : s.txFifo = b :: rest) :
    State.Inv { s with txFifo := rest, txOut := s.txOut ++ [b] } :=
  have htail : rest.length ≤ s.txFifo.length := by simp [hfifo]
  { hs with
    txFits := htail.trans hs.txFits
    canonical := { hs.canonical with } }

/-- The count of a running watchdog that does not expire stays above 0 and within its load (R41 (5)). -/
theorem State.Inv.wdtCountAfterTick_bounds {s : State} (hs : s.Inv)
    (hlive : s.wdtEnabled = true → s.wdtCount.toNat ≠ 1) :
    (s.wdtEnabled = true → s.wdtCountAfterTick ≠ 0) ∧ s.wdtCountAfterTick.toNat ≤ s.wdtCount.toNat := by
  cases hrun : s.wdtEnabled with
  | false => exact ⟨nofun, by rw [State.wdtCountAfterTick_stopped hrun]⟩
  | true =>
    have hcount := State.wdtCountAfterTick_running hrun (hs.watchdog hrun)
    have hpos : s.wdtCount.toNat ≠ 0 := mt count_eq_zero_iff.2 (hs.watchdog hrun)
    have hone := hlive hrun
    refine ⟨fun _ => ?_, by omega⟩
    rw [Ne, count_eq_zero_iff]
    omega

theorem State.Inv.ticked {s : State} (hs : s.Inv) (hlive : s.wdtEnabled = true → s.wdtCount.toNat ≠ 1) :
    s.countWdt.countDeadline.Inv :=
  have hwdt := hs.wdtCountAfterTick_bounds hlive
  { hs with
    deadline := by
      have hdeadline := hs.deadline
      simp only [State.countDeadline_dlExpired, State.countDeadline_dlCount, State.dlExpiredAfterTick_countWdt,
        State.dlCountAfterTick_countWdt, State.dlExpiredAfterTick_iff, count_eq_zero_iff, State.dlCountAfterTick_toNat]
      rw [hdeadline, count_eq_zero_iff]
      omega
    watchdog := hwdt.1
    dlBound := by
      have hbound := hs.dlBound
      simp only [State.countDeadline_dlCount, State.dlCountAfterTick_countWdt, State.dlCountAfterTick_toNat,
        State.countDeadline_cfg, State.countWdt_cfg]
      omega
    wdtBound := hwdt.2.trans hs.wdtBound
    canonical := { hs.canonical with } }

theorem State.Inv.isrEntered {s : State} (hs : s.Inv) : s.enterIsr.Inv :=
  { hs with
    cursorIdle := nofun
    toutIdle := nofun
    canonical := { hs.canonical with } }

/-- A drained byte keeps every written cell written and adds the one at the cursor (R53). -/
theorem State.Inv.byteDrained {s : State} (hs : s.Inv) {b : Byte} {rest : List Byte} (hat : s.isrPc = .drain)
    (hfifo : s.rxFifo = b :: rest) (hroom : s.cursor.toNat < 64) : (s.drainByte b rest).Inv :=
  have hcursor : (s.drainByte b rest).cursor.toNat = s.cursor.toNat + 1 := index_succ_toNat hroom
  have htail : rest.length ≤ s.rxFifo.length := by simp [hfifo]
  { hs with
    cursorLe := by omega
    cursorIdle := fun hidle => absurd (hat.symm.trans hidle) (by decide)
    rxFits := htail.trans hs.rxFits
    accumulated := by
      rw [hcursor]
      exact Memory.Written.write_next hs.accumulated b
    readyWhole := fun hpolicy hready => Memory.Written.write (hs.readyWhole hpolicy hready) _ b
    peekWhole := fun hpolicy hpc => Memory.Written.write (hs.peekWhole hpolicy hpc) _ b
    takenWhole := fun hpolicy hpc => Memory.Written.write (hs.takenWhole hpolicy hpc) _ b
    dirtyWindow := fun hpc => (if_neg hpc).trans (hs.dirtyWindow hpc)
    canonical := { hs.canonical with rxBuf := Memory.wf_write b hs.canonical.rxBuf hroom } }

theorem State.Inv.drainEnded {s : State} (hs : s.Inv) : s.endDrain.Inv :=
  { hs with
    cursorIdle := nofun
    toutIdle := nofun
    canonical := { hs.canonical with } }

/-- ISR_EXIT leaves the cursor below 64 and never raises it (R105). -/
theorem State.Inv.cursorAtExit_bounds {s : State} (hs : s.Inv) :
    s.cursorAtExit.toNat < 64 ∧ s.cursorAtExit.toNat ≤ s.cursor.toNat := by
  have hle := hs.cursorLe
  simp only [State.cursorAtExit]
  split
  case isTrue => simp
  case isFalse hfull =>
    rw [State.packetFull_iff] at hfull
    split
    · simp
    · omega

/-- Under DISCARD_PARTIAL only a full packet sets `ready`, and all its cells lie below the cursor (R41 (8)). -/
theorem State.Inv.written_of_readyAtExit {s : State} (hs : s.Inv) (hpolicy : s.cfg.timeoutPolicy = .discardPartial)
    (hready : s.readyAtExit = true) : Memory.Written s.rxBuf 64 := by
  obtain hready | hfull | ⟨hflush, -⟩ := s.readyAtExit_iff.1 hready
  · exact hs.readyWhole hpolicy hready
  · exact hs.accumulated.mono hfull.ge
  · rw [hpolicy] at hflush; cases hflush

theorem State.Inv.isrLeft {s : State} (hs : s.Inv) : s.closePacket.leaveIsr.Inv :=
  have ⟨hlt, hle⟩ := hs.cursorAtExit_bounds
  { hs with
    cursorLe := hlt.le
    cursorIdle := fun _ => hlt
    toutIdle := fun _ => rfl
    accumulated := hs.accumulated.mono hle
    readyWhole := hs.written_of_readyAtExit
    canonical := { hs.canonical with } }

/-! ### Moves of the main sequencer -/

/-- What the invariant asks of the data where the main sequencer stands at `m`. -/
def State.ReadyFor (s : State) (m : MainPc) : Prop :=
  match m with
  | .cwRead => s.cfg.timeoutPolicy = .discardPartial → Memory.Written s.rxBuf 4
  | .cwDecide => s.cmdWord ≠ none
  | .sKick | .sClear | .sParseBegin => s.cfg.timeoutPolicy = .discardPartial → Memory.Written s.rxBuf 64
  | .sParseEnd => Memory.Written s.reqLatch 64
  | .sTx => s.txIndex.toNat < 64 ∧ Memory.Written s.respBuf 64
  | _ => True

/-- The main sequencer runs in Phase B (R37). -/
abbrev MainPc.InPhaseB (m : MainPc) : Prop := m.phase = .connectTail ∨ m.phase = .session

/-- The parts of the invariant that name `main_pc`, with `m` for it. -/
structure State.PlaceInv (s : State) (m : MainPc) : Prop where
  txIndexAtTx : m = .sTx → s.txIndex.toNat < 64
  cmdLatched : m = .cwDecide → s.cmdWord ≠ none
  responseWritten : m = .sTx → Memory.Written s.respBuf 64
  requestLatched : m = .sParseEnd → Memory.Written s.reqLatch 64
  peekWhole : s.cfg.timeoutPolicy = .discardPartial → m = .cwRead → Memory.Written s.rxBuf 4
  takenWhole : s.cfg.timeoutPolicy = .discardPartial → m = .sKick ∨ m = .sClear ∨ m = .sParseBegin →
    Memory.Written s.rxBuf 64
  dirtyWindow : m ≠ .sParseEnd → s.parseDirty = false
  wdtAtPhaseB : s.cfg.wdtMode = .atPhaseB → (s.wdtEnabled = true ↔ m.InPhaseB)
  tailPolicy : m.phase = .connectTail → s.cfg.connectTailPolicy = .discard

theorem State.ReadyFor.placeInv {s : State} {m : MainPc} (hready : s.ReadyFor m) (hclean : s.parseDirty = false)
    (hwdt : s.cfg.wdtMode = .atPhaseB → (s.wdtEnabled = true ↔ m.InPhaseB))
    (htail : m.phase = .connectTail → s.cfg.connectTailPolicy = .discard) : s.PlaceInv m where
  txIndexAtTx := by rintro rfl; exact hready.1
  cmdLatched := by rintro rfl; exact hready
  responseWritten := by rintro rfl; exact hready.2
  requestLatched := by rintro rfl; exact hready
  peekWhole hpolicy := by rintro rfl; exact hready hpolicy
  takenWhole hpolicy := by rintro (rfl | rfl | rfl) <;> exact hready hpolicy
  dirtyWindow _ := hclean
  wdtAtPhaseB := hwdt
  tailPolicy := htail

/-- From `m` to `m'` the main sequencer neither enters nor leaves Phase B, and does not enter the tail (R37). -/
abbrev MainPc.KeepsPhaseB (m m' : MainPc) : Prop :=
  (m'.InPhaseB ↔ m.InPhaseB) ∧ (m'.phase = .connectTail → m.phase = .connectTail)

theorem State.Inv.placeInv_of_at {s : State} {m m' : MainPc} (hs : s.Inv) (hat : s.mainPc = m)
    (hkeeps : m.KeepsPhaseB m') (hclean : s.parseDirty = false) (hready : s.ReadyFor m') : s.PlaceInv m' := by
  subst hat
  exact hready.placeInv hclean (fun hmode => (hs.wdtAtPhaseB hmode).trans hkeeps.1.symm)
    (fun htail => hs.tailPolicy (hkeeps.2 htail))

/-- Outside the parse window nothing is dirty (R33). -/
theorem State.Inv.clean_at {s : State} {m : MainPc} (hs : s.Inv) (hat : s.mainPc = m) (hm : m ≠ .sParseEnd) :
    s.parseDirty = false := hs.dirtyWindow (hat ▸ hm)

theorem State.Inv.goMain {s : State} {m : MainPc} (hs : s.Inv) (hm : s.PlaceInv m) : (s.goMain m).Inv :=
  { hm, hs with canonical := { hs.canonical with } }

/-- A move that keeps the data: the target must find what the invariant asks of it. -/
theorem State.Inv.move {s : State} {m m' : MainPc} (hs : s.Inv) (hat : s.mainPc = m) (hready : s.ReadyFor m')
    (hm : m ≠ .sParseEnd := by decide) (hkeeps : m.KeepsPhaseB m' := by decide) : (s.goMain m').Inv :=
  hs.goMain (hs.placeInv_of_at hat hkeeps (hs.clean_at hat hm) hready)

/-! ### Updates of the data by the main sequencer, before it moves -/

theorem State.Inv.clearReady {s : State} (hs : s.Inv) : State.Inv { s with ready := false } :=
  { hs with
    readyWhole := nofun
    canonical := { hs.canonical with } }

theorem State.Inv.resetCursor {s : State} (hs : s.Inv) : State.Inv { s with cursor := 0 } :=
  { hs with
    cursorLe := Nat.zero_le _
    cursorIdle := fun _ => by simp
    accumulated := hs.accumulated.mono (Nat.zero_le _)
    canonical := { hs.canonical with } }

theorem State.Inv.latchTail {s : State} (hs : s.Inv) (z : Bool) : State.Inv { s with ctZero := z } :=
  { hs with canonical := { hs.canonical with } }

theorem State.Inv.setCmd {s : State} (hs : s.Inv) (v : Word32) : State.Inv { s with cmdWord := some v } :=
  { hs with
    cmdLatched := nofun
    canonical := { hs.canonical with } }

theorem State.Inv.wdtTimeout_ne_zero {s : State} (hs : s.Inv) : s.cfg.wdtTimeoutTicks ≠ 0 := by
  have hlegal := hs.params
  simp only [Config.wellFormed, Bool.and_eq_true, decide_eq_true_eq] at hlegal
  exact hlegal.2

/-- A load of WDT_TIMEOUT_TICKS keeps a running watchdog above 0 (R39). -/
theorem State.Inv.kick {s : State} (hs : s.Inv) : State.Inv { s with wdtCount := s.wdtCountAfterKick } :=
  { hs with
    watchdog := fun hrun => (State.wdtCountAfterKick_of_running (s := s) hrun).trans_ne hs.wdtTimeout_ne_zero
    wdtBound := by
      cases hrun : s.wdtEnabled with
      | true => exact (congrArg _ (State.wdtCountAfterKick_of_running hrun)).le
      | false => exact (congrArg _ (State.wdtCountAfterKick_of_stopped hrun)).trans_le hs.wdtBound
    canonical := { hs.canonical with } }

theorem State.Inv.latchRequest {s : State} (hs : s.Inv) (p : Packet) :
    State.Inv { s with reqLatch := Memory.ofPacket p, parseDirty := false } :=
  { hs with
    requestLatched := fun _ => Memory.written_ofPacket p
    dirtyWindow := fun _ => rfl
    canonical := { hs.canonical with reqLatch := Memory.wf_ofPacket p } }

theorem State.Inv.writeResponse {s : State} (hs : s.Inv) (p : Packet) (n : Nat) :
    State.Inv { s with respBuf := Memory.ofPacket p, draws := n, parseDirty := false, txIndex := 0 } :=
  { hs with
    txIndexLe := Nat.zero_le _
    txIndexAtTx := fun _ => by simp
    responseWritten := fun _ => Memory.written_ofPacket p
    dirtyWindow := fun _ => rfl
    canonical := { hs.canonical with respBuf := Memory.wf_ofPacket p } }

theorem State.Inv.raiseFault {s : State} (hs : s.Inv) (r : FaultRecord) : (s.raiseFault r).Inv :=
  { hs with canonical := { hs.canonical with } }

/-! ### The steps of the main sequencer that do not factor so -/

/-- The place the accept leads to under each tail policy asks nothing of the data (R123, R131). -/
theorem State.placeInv_acceptTarget {s : State} (hclean : s.parseDirty = false)
    (hwdt : s.cfg.wdtMode = .atPhaseB → s.wdtEnabled = true) : s.PlaceInv s.acceptTarget := by
  rw [State.acceptTarget_eq]
  split
  case isTrue hdiscard =>
    exact State.ReadyFor.placeInv trivial hclean (fun hmode => iff_of_true (hwdt hmode) (.inl rfl)) fun _ => hdiscard
  case isFalse =>
    exact State.ReadyFor.placeInv trivial hclean (fun hmode => iff_of_true (hwdt hmode) (.inr rfl)) nofun

/-- The accept starts the watchdog as it enters Phase B, which is where AT_PHASE_B runs it (R39, R124). -/
theorem State.Inv.accepted {s : State} (hs : s.Inv) (hat : s.mainPc = .cwDecide) :
    (s.startWdt.goMain s.acceptTarget).Inv := by
  have hclean : s.startWdt.parseDirty = false := hs.clean_at hat (by decide)
  by_cases hmode : s.cfg.wdtMode = .atPhaseB
  · have hplace : s.startWdt.PlaceInv s.acceptTarget := State.placeInv_acceptTarget hclean fun _ => if_pos hmode
    have hcount : s.wdtCountAtAccept = s.cfg.wdtTimeoutTicks := if_pos hmode
    exact { hplace, hs with
      watchdog := fun _ => hcount.trans_ne hs.wdtTimeout_ne_zero
      wdtDisabled := fun hdisabled => absurd (hmode.symm.trans hdisabled) (by decide)
      wdtAtReset := fun hreset => absurd (hmode.symm.trans hreset) (by decide)
      wdtBound := (congrArg _ hcount).le
      canonical := { hs.canonical with } }
  · have hplace : s.PlaceInv s.acceptTarget := State.placeInv_acceptTarget hclean fun h => absurd h hmode
    have hstopped : s.startWdt = s := by simp [State.startWdt, State.wdtEnabledAtAccept, State.wdtCountAtAccept, hmode]
    rw [hstopped]
    exact hs.goMain hplace

theorem State.Inv.queueTx {s : State} (hs : s.Inv) (b : Byte) (hroom : s.txFifo.length ≠ s.cfg.txFifoDepth)
    (hidx : s.txIndex.toNat < 64) (hnext : s.mainPc = .sTx → s.txIndex.toNat + 1 < 64) :
    State.Inv { s with txFifo := s.txFifo ++ [b], txIndex := s.txIndex + 1 } :=
  have hindex : (s.txIndex + 1).toNat = s.txIndex.toNat + 1 := index_succ_toNat hidx
  { hs with
    txFits := by
      have hfits := hs.txFits
      simp only [List.length_append, List.length_singleton]
      omega
    txIndexLe := hindex.trans_le hidx
    txIndexAtTx := fun hpc => hindex.trans_lt (hnext hpc)
    canonical := { hs.canonical with } }

/-- After the last byte the index is 64, and the main sequencer has left S_TX (R41 (3), R145). -/
theorem State.Inv.txPushed {s : State} (hs : s.Inv) (b : Byte) (hat : s.mainPc = .sTx)
    (hroom : s.txFifo.length ≠ s.cfg.txFifoDepth) (hidx : s.txIndex.toNat < 64) : (s.pushTx b).Inv := by
  rw [State.pushTx, State.mainPcAfterTx]
  split
  case isTrue =>
    have hmoved : (s.goMain .sPoll).Inv := hs.move hat trivial
    exact hmoved.queueTx b hroom hidx nofun
  case isFalse hlast => exact hs.queueTx b hroom hidx fun _ => Nat.lt_of_le_of_ne hidx hlast

/-! ### Every step -/

theorem State.Takes.keeps_inv {i : Instr} {s t : State} (h : s.Takes i t) (hs : s.Inv) : t.Inv := by
  cases h with
  | byteQueued hroom => exact hs.byteQueued _ hroom
  | byteLost => exact hs.byteLost
  | silence => exact hs.silence
  | txTaken hfifo => exact hs.txTaken hfifo
  | ticked hlive => exact hs.ticked hlive
  | isrEntered => exact hs.isrEntered
  | byteDrained hat hfifo hroom => exact hs.byteDrained hat hfifo hroom
  | drainEnded => exact hs.drainEnded
  | isrLeft => exact hs.isrLeft
  | readySeen hat hready => exact hs.move hat.mainPc fun hpolicy => (hs.readyWhole hpolicy hready).mono (by decide)
  | peekSeen hat hpeek => exact hs.move hat.mainPc fun _ => hs.accumulated.mono hpeek
  | pollSeen hat hready => exact hs.move hat.mainPc fun hpolicy => hs.readyWhole hpolicy hready
  | readyMissed hat | peekMissed hat | rejected hat | bootedOff hat | waitedOn hat | tailReady hat | tailEmpty hat
  | tailWaited hat => exact hs.move hat.mainPc trivial
  | cmdRead hat => exact (hs.setCmd _).move hat.mainPc nofun
  | accepted hat => exact hs.accepted hat.mainPc
  | readyRejected hat | tailCleared hat => exact hs.clearReady.move hat.mainPc trivial
  | cursorRejected hat => exact hs.resetCursor.move hat.mainPc trivial
  | tailCursorPolled hat => exact (hs.latchTail s.cursorZero).move hat.mainPc trivial
  | kicked hat => exact hs.kick.move hat.mainPc fun hpolicy => hs.takenWhole hpolicy (.inl hat.mainPc)
  | cleared hat => exact hs.clearReady.move hat.mainPc fun hpolicy => hs.takenWhole hpolicy (.inr (.inl hat.mainPc))
  | parseOpened hat => exact (hs.latchRequest _).move hat.mainPc (Memory.written_ofPacket _)
  | parseClosed hat =>
    have hwritten := hs.writeResponse s.response s.drawsAfterResponse
    exact hwritten.goMain (hwritten.placeInv_of_at hat.mainPc (by decide) rfl ⟨by simp, Memory.written_ofPacket _⟩)
  | txPushed hat hroom hidx => exact hs.txPushed _ hat.mainPc hroom hidx
  | pollSpun | txSpun => exact hs
  | cmdFaulted | parseFaulted | txFaulted => exact hs.raiseFault _

theorem exec_keeps_inv {i : Instr} {s t : State} (h : exec i s = .next t) (hs : s.Inv) : t.Inv := by
  by_cases hreset : s.Resets i
  · obtain ⟨cause, rfl⟩ := exec_of_resets h hreset
    exact hs.doReset cause
  · exact (takes_of_exec h hreset).keeps_inv hs

theorem State.Inv.advance {s : State} (hs : s.Inv) : s.advance.Inv :=
  { hs with canonical := { hs.canonical with } }

/-- Settles O44: the meaning keeps the invariant, and moving past the word touches nothing it speaks of. -/
theorem everyStepKeepsTheInvariant : Obligations.EveryStepKeepsTheInvariant := by
  intro s t hs h
  obtain ⟨w, i, u, -, -, hexec, rfl⟩ := step_eq_next h
  exact (exec_keeps_inv hexec hs).advance

end Sys2Proof.Machine
end

section
/-! PROOF. Noninterference (10_state R21, R28, R35, R36; 90_conflicts C6): a step commutes with forgetting the elements
it does not read, so that two states that agree up to them take it to outcomes that agree up to them. -/

namespace Sys2Proof.Machine

/-! ### Outcomes up to a map of the next state -/

section
variable {f : State → State} {s s' : State}

/-- The same guard and position, and effects that agree up to `f`. -/
theorem mapNext_takeIf {g : Bool} {o o' : Host.Outcome State Fault Refusal} (hpos : s.tracePos = s'.tracePos)
    (h : mapNext f o = mapNext f o') : mapNext f (takeIf g s o) = mapNext f (takeIf g s' o') := by
  cases g
  · rw [takeIf_false, takeIf_false, hpos]
  · exact h

theorem mapNext_ite {c : Prop} [Decidable c] {a b a' b' : State} (ha : f a = f a') (hb : f b = f b') :
    mapNext f (.next (if c then a else b)) = mapNext f (.next (if c then a' else b')) := by
  split
  exacts [congrArg Host.Outcome.next ha, congrArg Host.Outcome.next hb]

theorem mapNext_execTxTake (hpos : s.tracePos = s'.tracePos) (hguard : s.active = s'.active)
    (hfifo : s.txFifo = s'.txFifo)
    (heffect : ∀ b rest, f { s with txFifo := rest, txOut := s.txOut ++ [b] } =
      f { s' with txFifo := rest, txOut := s'.txOut ++ [b] }) :
    mapNext f (execTxTake s) = mapNext f (execTxTake s') := by
  rw [execTxTake, execTxTake, hguard, hfifo]
  refine mapNext_takeIf hpos ?_
  cases s'.txFifo with
  | nil => rw [hpos]
  | cons b rest => exact congrArg Host.Outcome.next (heffect b rest)

theorem mapNext_execIsrDrain (hpos : s.tracePos = s'.tracePos) (hguard : s.isrAt .drain = s'.isrAt .drain)
    (hfifo : s.rxFifo = s'.rxFifo) (hcursor : s.cursor = s'.cursor)
    (heffect : ∀ b rest, f (s.drainByte b rest) = f (s'.drainByte b rest)) (hend : f s.endDrain = f s'.endDrain) :
    mapNext f (execIsrDrain s) = mapNext f (execIsrDrain s') := by
  rw [execIsrDrain, execIsrDrain, hguard, hfifo, hcursor]
  refine mapNext_takeIf hpos ?_
  cases s'.rxFifo with
  | nil => exact congrArg Host.Outcome.next hend
  | cons b rest => exact mapNext_ite (heffect b rest) hend

theorem mapNext_execCwRead (hpos : s.tracePos = s'.tracePos) (hguard : s.mainAt .cwRead = s'.mainAt .cwRead)
    (hmem : s.memRead .rxBuf 0 peekBytes = s'.memRead .rxBuf 0 peekBytes)
    (heffect : ∀ v, f (s.latchCmd v) = f (s'.latchCmd v)) (hfault : ∀ r, f (s.raiseFault r) = f (s'.raiseFault r)) :
    mapNext f (execCwRead s) = mapNext f (execCwRead s') := by
  rw [execCwRead, execCwRead, hguard, hmem]
  refine mapNext_takeIf hpos ?_
  cases s'.memRead .rxBuf 0 peekBytes with
  | ok bs => exact congrArg Host.Outcome.next (heffect _)
  | error r => exact congrArg Host.Outcome.next (hfault r)

theorem mapNext_execSParseBegin (hpos : s.tracePos = s'.tracePos)
    (hguard : s.mainAt .sParseBegin = s'.mainAt .sParseBegin)
    (hmem : s.memRead .rxBuf 0 pktSize = s'.memRead .rxBuf 0 pktSize)
    (heffect : ∀ p, f (s.openParse p) = f (s'.openParse p)) (hfault : ∀ r, f (s.raiseFault r) = f (s'.raiseFault r)) :
    mapNext f (execSParseBegin s) = mapNext f (execSParseBegin s') := by
  rw [execSParseBegin, execSParseBegin, hguard, hmem]
  refine mapNext_takeIf hpos ?_
  cases s'.memRead .rxBuf 0 pktSize with
  | ok p => exact congrArg Host.Outcome.next (heffect p)
  | error r => exact congrArg Host.Outcome.next (hfault r)

theorem mapNext_execSTx (hpos : s.tracePos = s'.tracePos) (hguard : s.mainAt .sTx = s'.mainAt .sTx)
    (hfull : s.txFull = s'.txFull) (hidx : s.txIndex = s'.txIndex)
    (hmem : ∀ a, s.memRead .respBuf a 1 = s'.memRead .respBuf a 1) (hspin : f s = f s')
    (heffect : ∀ b, f (s.pushTx b) = f (s'.pushTx b)) (hfault : ∀ r, f (s.raiseFault r) = f (s'.raiseFault r)) :
    mapNext f (execSTx s) = mapNext f (execSTx s') := by
  rw [execSTx, execSTx, hguard, hfull, hidx, hmem]
  refine mapNext_takeIf hpos ?_
  by_cases hspins : s'.txFull = true
  · rw [if_pos hspins, if_pos hspins]
    exact congrArg Host.Outcome.next hspin
  rw [if_neg hspins, if_neg hspins]
  by_cases hpast : pktSize ≤ s'.txIndex.toNat
  · rw [if_pos hpast, if_pos hpast]
  rw [if_neg hpast, if_neg hpast]
  cases s'.memRead .respBuf s'.txIndex.toNat 1 with
  | ok bs => exact congrArg Host.Outcome.next (heffect _)
  | error r => exact congrArg Host.Outcome.next (hfault r)

end

/-! ### What each step reads -/

/-- No step but CW_DEADLINE reads the deadline, and none reads `rx_overflow`, `tx_out` or `last_reset_cause`: each is
only counted, extended or loaded on its own. -/
theorem exec_forget {f : State → State} (hf : f = State.forgetObserved ∨ f = State.forgetDeadline) {i : Instr}
    (hi : i ≠ .cwDeadline) (s : State) : mapNext f (exec i (f s)) = mapNext f (exec i s) := by
  obtain rfl | rfl := hf <;> cases i with
  | cwDeadline => exact absurd rfl hi
  | rxByte | tick | cwDecide | sPoll => exact mapNext_takeIf rfl (mapNext_ite rfl rfl)
  | txTake => exact mapNext_execTxTake rfl rfl rfl fun _ _ => rfl
  | isrDrain => exact mapNext_execIsrDrain rfl rfl rfl rfl (fun _ _ => rfl) rfl
  | cwRead => exact mapNext_execCwRead rfl rfl rfl (fun _ => rfl) fun _ => rfl
  | sParseBegin => exact mapNext_execSParseBegin rfl rfl rfl (fun _ => rfl) fun _ => rfl
  | sTx => exact mapNext_execSTx rfl rfl rfl rfl (fun _ => rfl) rfl (fun _ => rfl) fun _ => rfl
  | _ => exact mapNext_takeIf rfl rfl

theorem exec_forgetObserved (i : Instr) (s : State) :
    mapNext State.forgetObserved (exec i s.forgetObserved) = mapNext State.forgetObserved (exec i s) := by
  by_cases hi : i = .cwDeadline
  · subst hi
    exact mapNext_takeIf rfl rfl
  · exact exec_forget (.inl rfl) hi s

/-- Settles O59: either outcome is, up to the three elements, that of the state with them forgotten. -/
theorem observedElementsInfluenceNothing : Obligations.ObservedElementsInfluenceNothing := by
  intro i s s' h
  rw [← exec_forgetObserved i s, h, exec_forgetObserved]

/-- Settles O60: either outcome is, up to the deadline, that of the state with it forgotten. -/
theorem deadlineInfluencesOnlyCwDeadline : Obligations.DeadlineInfluencesOnlyCwDeadline := by
  intro i s s' hi h
  rw [← exec_forget (.inr rfl) hi s, h, exec_forget (.inr rfl) hi s']

end Sys2Proof.Machine
end

section
/-! PROOF. Byte spaces and the line (20_memory R50, R54; 10_state R25, R35): every step keeps the byte spaces in
canonical form, and what has been sent only grows. Both rest on the few transitions that write these elements. -/

namespace Sys2Proof.Machine

/-! ### The canonical form of the byte spaces -/

/-- Only the drain, the opening and the close of the parse window write a byte space, each in canonical form. -/
theorem State.Takes.keeps_canonical {i : Instr} {s t : State} (h : s.Takes i t) (hs : s.Canonical) : t.Canonical := by
  cases h with
  | byteDrained hat hfifo hroom => exact { hs with rxBuf := Memory.wf_write _ hs.rxBuf hroom }
  | parseOpened => exact { hs with reqLatch := Memory.wf_ofPacket _ }
  | parseClosed => exact { hs with respBuf := Memory.wf_ofPacket _ }
  | _ => exact { hs with }

/-- A reset leaves every cell UNWRITTEN (R190). -/
theorem State.canonical_doReset (s : State) (cause : ResetCause) : (s.doReset cause).Canonical where
  rxBuf := Memory.wf_nil
  reqLatch := Memory.wf_nil
  respBuf := Memory.wf_nil

theorem exec_keeps_canonical {i : Instr} {s t : State} (h : exec i s = .next t) (hs : s.Canonical) :
    t.Canonical := by
  by_cases hreset : s.Resets i
  · obtain ⟨cause, rfl⟩ := exec_of_resets h hreset
    exact s.canonical_doReset cause
  · exact (takes_of_exec h hreset).keeps_canonical hs

/-- Settles O45: the meaning keeps the canonical form, and moving past the word touches no byte space. -/
theorem everyStepKeepsMemoryCanonical : Obligations.EveryStepKeepsMemoryCanonical := by
  intro s t hs h
  obtain ⟨w, i, u, -, -, hexec, rfl⟩ := step_eq_next h
  exact { exec_keeps_canonical hexec hs with }

/-! ### The bytes sent -/

/-- The resets a step can make are the watchdog's and the external one, which keep the line (R161, R190). -/
theorem txOut_of_resets {i : Instr} {s t : State} (h : exec i s = .next t) (hreset : s.Resets i) :
    t.txOut = s.txOut := by
  obtain rfl | ⟨rfl, -⟩ := id hreset
  · obtain ⟨-, rfl⟩ := execExtReset_eq_next.1 h
    rfl
  · obtain ⟨-, rfl⟩ := execTick_eq_next.1 h
    rw [if_pos (s.resets_tick_iff.1 hreset)]
    rfl

/-- The line is extended by TX_TAKE's byte and by no other transition (R146). -/
theorem State.Takes.txOut_grows {i : Instr} {s t : State} (h : s.Takes i t) :
    s.txOut <+: t.txOut ∧ (i ≠ .txTake → t.txOut = s.txOut) := by
  cases h with
  | txTaken => exact ⟨List.prefix_append _ _, fun hi => absurd rfl hi⟩
  | _ => exact ⟨List.prefix_rfl, fun _ => rfl⟩

/-- S_TX appends the response byte at `tx_index`; TX_TAKE moves a byte within what has been sent (R145, R146). -/
theorem State.Takes.sent_eq_or_push {i : Instr} {s t : State} (h : s.Takes i t) :
    t.sent = s.sent ∨
      (i = .sTx ∧ t.txIndex.toNat = s.txIndex.toNat + 1 ∧
        ∃ b, Memory.read s.respBuf s.txIndex.toNat = some b ∧ t.sent = s.sent ++ [b]) := by
  cases h with
  | txTaken hfifo => exact .inl (by simp [State.sent, hfifo])
  | txPushed hat hroom hidx hmem =>
    exact .inr ⟨rfl, index_succ_toNat hidx, _, hmem, (List.append_assoc _ _ _).symm⟩
  | _ => exact .inl rfl

/-- Settles O48: a reset keeps the line, and short of one each transition is TX_TAKE, S_TX of a byte, or neither. -/
theorem sentBytesGrowInIndexOrder : Obligations.SentBytesGrowInIndexOrder := by
  intro i s t h
  by_cases hreset : s.Resets i
  · have hline := txOut_of_resets h hreset
    exact ⟨hline ▸ List.prefix_rfl, fun _ => hline, fun hshort => absurd hreset hshort⟩
  · have htakes := takes_of_exec h hreset
    obtain ⟨hprefix, hkept⟩ := htakes.txOut_grows
    exact ⟨hprefix, hkept, fun _ => htakes.sent_eq_or_push⟩

end Sys2Proof.Machine
end

section
/-! PROOF. Step words (30_encoding R70 to R74): a word is its agent-and-op byte above its data byte, and the step map
leads from a step's word back to that step alone. -/

namespace Sys2Proof.Machine

/-! ### The two bytes of a word -/

/-- A step word is its agent and op above its data (R70). -/
theorem exists_eq_append (w : Word) : ∃ h d : Byte, w = h ++ d :=
  ⟨w.extractLsb' 8 8, w.extractLsb' 0 8, (BitVec.extractLsb'_append_extractLsb' (w := 8) (len := 8)).symm⟩

theorem toNat_byte_append (h d : Byte) : (h ++ d).toNat = 256 * h.toNat + d.toNat := by
  rw [BitVec.toNat_append, ← Nat.shiftLeft_add_eq_or_of_lt d.isLt, Nat.shiftLeft_eq, Nat.mul_comm]

theorem dataField_append (h d : Byte) : dataField (h ++ d) = d := BitVec.extractLsb'_append_eq_right

/-- RX_BYTE's mask keeps the agent and op and clears the data. -/
theorem append_and_ff00 (h d : Byte) : (h ++ d : Word) &&& 0xFF00 = h ++ 0#8 := by
  have hmask : (0xFF00 : Word) = 0xFF#8 ++ 0#8 := rfl
  rw [hmask, BitVec.and_append, BitVec.and_zero]
  congr 1
  exact BitVec.and_allOnes

theorem reservedWord_append (h d : Byte) :
    ReservedWord (h ++ d) ↔ ReservedFields (h.toNat / 16) (h.toNat % 16) d.toNat := by
  have hd := d.isLt
  have hagent : (256 * h.toNat + d.toNat) / 4096 = h.toNat / 16 := by omega
  have hop : (256 * h.toNat + d.toNat) / 256 % 16 = h.toNat % 16 := by omega
  have hdata : (256 * h.toNat + d.toNat) % 256 = d.toNat := by omega
  rw [ReservedWord, toNat_byte_append, hagent, hop, hdata]

/-! ### Decoding -/

theorem decode_rxByte_word (b : Byte) : decode (0x10#8 ++ b) = .step (.rxByte b) := by
  have hrow : ((0x10#8 ++ b : Word) &&& 0xFF00 == 0x1000) = true := by rw [append_and_ff00]; rfl
  have hfind : stepMap.find? (fun r => (0x10#8 ++ b : Word) &&& r.mask == r.pattern) =
      some ⟨0x1000, 0xFF00, .rxByte⟩ :=
    List.find?_cons_of_pos hrow
  rw [decode, hfind, dataField_append]

theorem decode_encode (i : Instr) : decode (encode i) = .step i := by
  cases i with
  | rxByte b => exact decode_rxByte_word b
  | _ => rfl

/-- Settles O2: RX_BYTE's row keeps its byte, and every other step is a fixed word of its own row. -/
theorem decodeEncodeRoundTrip : Obligations.DecodeEncodeRoundTrip := decode_encode

/-- RX_BYTE's row carries data; every other row of the step map is the one word of its step (R72). -/
theorem stepMap_row_cases : ∀ r ∈ stepMap,
    r = ⟨0x1000, 0xFF00, .rxByte⟩ ∨ (r.mask = 0xFFFF ∧ ∀ b, encode (r.build b) = r.pattern) := by
  simp [stepMap, lineRows, isrRows, mainRows, encode]

/-- The word a row matches is the word of that row's step. -/
theorem encode_build_of_match {r : MapRow} {w : Word} (hr : r ∈ stepMap) (hmatch : w &&& r.mask = r.pattern) :
    encode (r.build (dataField w)) = w := by
  obtain rfl | ⟨hmask, hword⟩ := stepMap_row_cases r hr
  · obtain ⟨h, d, rfl⟩ := exists_eq_append w
    rw [append_and_ff00] at hmatch
    obtain rfl : h = 0x10 := BitVec.extractLsb'_append_eq_left.symm.trans (congrArg (BitVec.extractLsb' 8 8) hmatch)
    rw [dataField_append]
    rfl
  · rw [hword, ← hmatch, hmask]
    exact BitVec.and_allOnes

theorem decode_eq_step_iff {w : Word} {i : Instr} : decode w = .step i ↔ encode i = w := by
  refine ⟨fun h => ?_, fun h => h ▸ decode_encode i⟩
  rw [decode] at h
  split at h
  next r hfind =>
    obtain rfl := Decoded.step.inj h
    exact encode_build_of_match (List.mem_of_find?_eq_some hfind) (by simpa using List.find?_some hfind)
  next => cases h

/-! ### Reserved words -/

/-- No step's word is on the list of R74. -/
theorem not_reservedWord_encode (i : Instr) : ¬ ReservedWord (encode i) := by
  cases i with
  | rxByte b =>
    rw [encode, reservedWord_append]
    simp [ReservedFields]
  | _ => decide

/-- Every agent and op off the list of R74 has its row, a finite check over the upper byte. -/
theorem exists_row_of_not_reserved : ∀ h : Byte, ¬ ReservedFields (h.toNat / 16) (h.toNat % 16) 0 →
    ∃ r ∈ stepMap, encode (r.build 0) = h ++ 0#8 := by decide

/-- Every word off the list of R74 is the word of some step. -/
theorem exists_encode_eq {w : Word} (hw : ¬ ReservedWord w) : ∃ i, encode i = w := by
  obtain ⟨h, d, rfl⟩ := exists_eq_append w
  rw [reservedWord_append] at hw
  by_cases hrx : h = 0x10
  · exact ⟨.rxByte d, by rw [encode, hrx]⟩
  · have hne : ¬ (h.toNat / 16 = 1 ∧ h.toNat % 16 = 0) := by
      rintro ⟨hagent, hop⟩
      exact hrx (BitVec.eq_of_toNat_eq (by simp; omega))
    have hdata : d.toNat = 0 := by_contra fun hd => hw (by simp [ReservedFields, hne, hd])
    obtain rfl : d = 0#8 := BitVec.eq_of_toNat_eq hdata
    obtain ⟨r, -, hr⟩ := exists_row_of_not_reserved h hw
    exact ⟨_, hr⟩

theorem step_of_decode_invalid {s : State} {w : Word} {rest : List Word} {why : InvalidWord}
    (htrace : s.trace = w :: rest) (hdecode : decode w = .invalid why) :
    step s = .refused (.invalidWord s.tracePos why) := by
  simp [step, State.nextWord, htrace, hdecode]

/-- Settles O3: the words of steps are exactly the words off the list, and decoding inverts encoding on them. -/
theorem reservedWordsAreRefusedOthersDecode : Obligations.ReservedWordsAreRefusedOthersDecode := by
  intro w
  constructor
  · intro hreserved
    cases hdecode : decode w with
    | step i => exact absurd (decode_eq_step_iff.1 hdecode ▸ hreserved) (not_reservedWord_encode i)
    | invalid why => exact ⟨why, rfl, fun s rest htrace => step_of_decode_invalid htrace hdecode⟩
  · intro hlisted
    obtain ⟨i, hi⟩ := exists_encode_eq hlisted
    exact ⟨i, decode_eq_step_iff.2 hi, hi⟩

/-- Settles O1: each word is decoded by the step map itself. -/
theorem writtenOutWordsDecode : Obligations.WrittenOutWordsDecode := by
  unfold Obligations.WrittenOutWordsDecode
  decide

end Sys2Proof.Machine
end

section
/-! PROOF. Enabledness (30_encoding R75; 60_exceptions R172): the guard of each step's meaning is the spec's, and a step
whose guard holds is never refused. -/

namespace Sys2Proof.Machine

theorem microOp_ne_booted {i : Instr} {m : MainPc} (h : microOp i = some m) : m ≠ .booted := by
  rintro rfl
  cases i <;> cases h

/-- A MAIN step is enabled exactly where the main sequencer stands at its op with the interrupt context idle. -/
theorem State.enabled_main_iff {s : State} {i : Instr} {m : MainPc} (h : microOp i = some m) :
    s.Enabled i ↔ s.AtMain m := by
  have hbooted := microOp_ne_booted h
  have heq : s.Enabled i ↔ s.Running ∧ s.isrPc = .idle ∧ microOp i = some s.mainPc := by
    cases i
    case rxByte | rxSilence | txTake | tick | isrEntry | isrDrain | isrExit | extReset => cases h
    all_goals exact Iff.rfl
  rw [heq, h, Option.some.injEq, State.Running, State.AtMain]
  constructor
  · rintro ⟨⟨hfault, -⟩, hidle, rfl⟩
    exact ⟨hfault, hidle, rfl⟩
  · rintro ⟨hfault, hidle, rfl⟩
    exact ⟨⟨hfault, hbooted⟩, hidle, rfl⟩

theorem State.mainAt_iff_enabled {s : State} {i : Instr} {m : MainPc} (h : microOp i = some m) :
    s.mainAt m = true ↔ s.Enabled i :=
  (s.mainAt_iff m (microOp_ne_booted h)).trans (State.enabled_main_iff h).symm

/-- TX_TAKE's own guard, a queued byte, stands in its effect (R146). -/
theorem execTxTake_eq_takeIf (s : State) : execTxTake s = takeIf (s.active && !s.txFifo.isEmpty) s
    (.next { s with txFifo := s.txFifo.tail, txOut := s.txOut ++ s.txFifo.head?.toList }) := by
  rw [execTxTake]
  cases s.txFifo <;> cases s.active <;> rfl

/-- Every step is taken under exactly its guard, and its effect is no refusal. -/
theorem exec_eq_takeIf_enabled (i : Instr) (s : State) :
    ∃ g o, exec i s = takeIf g s o ∧ (g = true ↔ s.Enabled i) ∧ ∀ r, o ≠ .refused r := by
  cases i
  case rxByte | rxSilence | tick | extReset =>
    exact ⟨s.active, .next _, rfl, by simp [State.Enabled], nofun⟩
  case txTake => exact ⟨_, .next _, execTxTake_eq_takeIf s, by simp [State.Enabled], nofun⟩
  case isrEntry => exact ⟨s.isrAt .idle && s.rxRequested, .next _, rfl, by simp [State.Enabled, and_assoc], nofun⟩
  case isrDrain | isrExit => exact ⟨s.isrAt _, .next _, rfl, by simp [State.Enabled], nofun⟩
  case sTx =>
    refine ⟨s.mainAt .sTx, _, rfl, State.mainAt_iff_enabled rfl, fun r => ?_⟩
    split
    · nofun
    · split
      · nofun
      · split <;> nofun
  all_goals exact ⟨s.mainAt _, .next _, rfl, State.mainAt_iff_enabled rfl, nofun⟩

theorem exec_of_not_enabled {i : Instr} {s : State} (h : ¬ s.Enabled i) :
    exec i s = .refused (.notEnabled s.tracePos) := by
  obtain ⟨g, o, hexec, hg, -⟩ := exec_eq_takeIf_enabled i s
  obtain rfl : g = false := Bool.eq_false_iff.2 (mt hg.1 h)
  rw [hexec, takeIf_false]

theorem exec_ne_refused_of_enabled {i : Instr} {s : State} (h : s.Enabled i) (r : Refusal) :
    exec i s ≠ .refused r := by
  obtain ⟨g, o, hexec, hg, ho⟩ := exec_eq_takeIf_enabled i s
  obtain rfl := hg.2 h
  rw [hexec, takeIf_true]
  exact ho r

/-- Settles O7: a failed guard is the refusal, and a guard that holds refuses nothing. -/
theorem refusedExactlyWhenNotEnabled : Obligations.RefusedExactlyWhenNotEnabled := fun _ _ =>
  ⟨exec_of_not_enabled, fun hrefused henabled => exec_ne_refused_of_enabled henabled _ hrefused⟩

/-- Settles O8: an enabled step is not refused, and S_TX below index 64 does not stop with the model's own fault. -/
theorem enabledStepsAreTaken : Obligations.EnabledStepsAreTaken := by
  intro i s henabled hidx
  cases hexec : exec i s with
  | next t => exact ⟨t, rfl⟩
  | fault f =>
    obtain ⟨htx, -, hpast⟩ := exec_eq_fault hexec
    exact absurd (hidx htx) (Nat.not_lt.2 hpast)
  | refused r => exact absurd hexec (exec_ne_refused_of_enabled henabled r)

end Sys2Proof.Machine
end

section
/-! PROOF. The micro-program (30_encoding R73): where each transition short of a reset leaves `main_pc` and `isr_pc`. -/

namespace Sys2Proof.Machine

/-- Where a step leaves `isr_pc`, read in the state it starts from (R103 to R105). -/
def State.isrSuccessor (s : State) (i : Instr) : IsrPc :=
  match i with
  | .isrEntry => .drain
  | .isrDrain => if s.rxFifo ≠ [] ∧ s.cursor.toNat < 64 then .drain else .exit
  | .isrExit => .idle
  | _ => s.isrPc

section
variable {s t : State} {i : Instr}

/-- Only the ISR steps move `isr_pc` (R103 to R105). -/
theorem State.Takes.isrPc_follows (h : s.Takes i t) : t.isrPc = s.isrSuccessor i := by
  cases h with
  | byteDrained hat hfifo hroom => simp [State.isrSuccessor, hat, hfifo, hroom]
  | drainEnded hat hend =>
    have hdone : ¬ (s.rxFifo ≠ [] ∧ s.cursor.toNat < 64) := by
      rintro ⟨hqueued, hroom⟩
      exact hend.elim hqueued (Nat.not_le.2 hroom)
    rw [State.endDrain_isrPc, State.isrSuccessor, if_neg hdone]
  | _ => rfl

/-- The line, the timer and the interrupt context keep `main_pc` (R174). -/
theorem State.Takes.keeps_mainPc (h : s.Takes i t) (hi : i.agent ≠ .main) : t.mainPc = s.mainPc := by
  cases h with
  | byteQueued | byteLost | silence | txTaken | ticked | isrEntered | byteDrained | drainEnded | isrLeft => rfl
  | _ => exact absurd rfl hi

/-- A MAIN step that raises no fault goes to its successor. -/
theorem State.AtMain.follows {m : MainPc} (hat : s.AtMain m) (hfault : t.fault = s.fault)
    (hpc : t.mainPc = s.microSuccessor) : t.mainPc = if t.fault = none then s.microSuccessor else s.mainPc := by
  rw [if_pos (hfault.trans hat.1), hpc]

/-- S_TX goes back to S_POLL with the 64th byte, and stays before it (R145). -/
theorem State.mainPcAfterTx_eq (hidx : s.txIndex.toNat < 64) :
    s.mainPcAfterTx = if s.txIndex.toNat + 1 < 64 then s.mainPc else .sPoll := by
  rw [State.mainPcAfterTx, pktSize]
  by_cases hlast : s.txIndex.toNat + 1 = 64
  · rw [if_pos hlast, if_neg (by omega)]
  · rw [if_neg hlast, if_pos (by omega)]

/-- A MAIN step goes to its successor, or raises a fault and stays (R73). -/
theorem State.Takes.mainPc_follows (h : s.Takes i t) (hi : i.agent = .main) :
    t.mainPc = if t.fault = none then s.microSuccessor else s.mainPc := by
  cases h with
  | byteQueued | byteLost | silence | txTaken | ticked | isrEntered | byteDrained | drainEnded | isrLeft => cases hi
  | cmdFaulted | parseFaulted | txFaulted => rfl
  | readySeen hat hcond | readyMissed hat hcond | peekSeen hat hcond | rejected hat hcond | bootedOff hat hcond
  | waitedOn hat hcond | tailReady hat hcond | pollSeen hat hcond | pollSpun hat hcond | txSpun hat hcond =>
    exact hat.follows rfl (by simp [State.microSuccessor, hat.mainPc, hcond])
  | peekMissed hat hpeek => exact hat.follows rfl (by simp [State.microSuccessor, hat.mainPc, Nat.not_le.2 hpeek])
  | accepted hat hcmd =>
    exact hat.follows rfl (by simp [State.microSuccessor, hat.mainPc, hcmd, State.acceptTarget_eq])
  | tailEmpty hat hready hzero | tailWaited hat hready hzero =>
    exact hat.follows rfl (by simp [State.microSuccessor, hat.mainPc, hready, hzero])
  | txPushed hat hroom hidx =>
    exact hat.follows rfl (by simp [State.microSuccessor, hat.mainPc, hroom, State.mainPcAfterTx_eq hidx])
  -- Every other place has one successor.
  | cmdRead hat | readyRejected hat | cursorRejected hat | tailCursorPolled hat | tailCleared hat | kicked hat
  | cleared hat | parseOpened hat | parseClosed hat =>
    exact hat.follows rfl (by simp [State.microSuccessor, hat.mainPc])

end

/-- Settles O40: a MAIN transition is a row of the micro-program or a fault, and only an ISR one moves `isr_pc`. -/
theorem stepsFollowTheMicroProgram : Obligations.StepsFollowTheMicroProgram := by
  intro i s t h hreset
  have htakes := takes_of_exec h hreset
  exact ⟨htakes.mainPc_follows, htakes.keeps_mainPc, htakes.isrPc_follows⟩

end Sys2Proof.Machine
end

section
/-! PROOF. The framer's steps one by one (41_framer R100 to R106), and the stream of received bytes they keep in
arrival order (41_framer R110; 20_memory R53). -/

namespace Sys2Proof.Machine

/-! ### The end of an invocation -/

section
variable {s : State}

theorem State.closePacket_of_full (hfull : s.cursor.toNat = 64) :
    s.closePacket = { s with ready := true, cursor := 0 } := by
  rw [← State.packetFull_iff] at hfull
  rw [State.closePacket, State.readyAtExit, State.cursorAtExit, if_pos hfull, if_pos hfull]

theorem State.closePacket_of_flush (hshort : s.cursor.toNat ≠ 64) (hdue : s.isrTout = true ∧ 0 < s.cursor.toNat) :
    s.closePacket = { s with ready := s.readyAfterFlush, cursor := 0 } := by
  rw [Ne, ← State.packetFull_iff] at hshort
  rw [← State.flushDue_iff] at hdue
  rw [State.closePacket, State.readyAtExit, State.cursorAtExit, if_neg hshort, if_neg hshort, if_pos hdue, if_pos hdue]

theorem State.closePacket_of_kept (hshort : s.cursor.toNat ≠ 64) (hdue : ¬(s.isrTout = true ∧ 0 < s.cursor.toNat)) :
    s.closePacket = s := by
  rw [Ne, ← State.packetFull_iff] at hshort
  rw [← State.flushDue_iff] at hdue
  rw [State.closePacket, State.readyAtExit, State.cursorAtExit, if_neg hshort, if_neg hshort, if_neg hdue, if_neg hdue]

/-! ### The steps where they are taken -/

theorem exec_rxByte_of_room (hrun : s.Running) (b : Byte) (hroom : s.rxFifo.length < s.cfg.rxFifoDepth) :
    exec (.rxByte b) s = .next { s with rxFifo := s.rxFifo ++ [b] } :=
  execRxByte_eq_next.2 ⟨hrun, (if_pos (s.rxHasRoom_iff.2 hroom)).symm⟩

theorem exec_rxByte_of_full (hrun : s.Running) (b : Byte) (hfull : ¬ s.rxFifo.length < s.cfg.rxFifoDepth) :
    exec (.rxByte b) s = .next { s with rxOverflow := true } :=
  execRxByte_eq_next.2 ⟨hrun, (if_neg (mt s.rxHasRoom_iff.1 hfull)).symm⟩

theorem exec_rxSilence (hrun : s.Running) : exec .rxSilence s = .next { s with rxToutPending := true } :=
  execRxSilence_eq_next.2 ⟨hrun, rfl⟩

theorem exec_isrEntry (hrun : s.Running) (hidle : s.isrPc = .idle) (hreq : s.rxFifo ≠ [] ∨ s.rxToutPending = true) :
    exec .isrEntry s = .next s.enterIsr :=
  execIsrEntry_eq_next.2 ⟨⟨hrun, hidle⟩, hreq, rfl⟩

theorem exec_isrDrain_of_byte (hrun : s.Running) (hat : s.isrPc = .drain) {b : Byte} {rest : List Byte}
    (hfifo : s.rxFifo = b :: rest) (hroom : s.cursor.toNat < 64) : exec .isrDrain s = .next (s.drainByte b rest) :=
  execIsrDrain_eq_next.2 ⟨⟨hrun, hat⟩, .inl ⟨b, rest, hfifo, hroom, rfl⟩⟩

theorem exec_isrDrain_of_end (hrun : s.Running) (hat : s.isrPc = .drain) (hend : s.rxFifo = [] ∨ 64 ≤ s.cursor.toNat) :
    exec .isrDrain s = .next s.endDrain :=
  execIsrDrain_eq_next.2 ⟨⟨hrun, hat⟩, .inr ⟨hend, rfl⟩⟩

theorem exec_isrExit (hrun : s.Running) (hat : s.isrPc = .exit) : exec .isrExit s = .next s.closePacket.leaveIsr :=
  execIsrExit_eq_next.2 ⟨⟨hrun, hat⟩, rfl⟩

end

/-- Settles O11: RX_BYTE's one branch is on room in the FIFO. -/
theorem rxByteQueuesOrIsLost : Obligations.RxByteQueuesOrIsLost := by
  intro b s
  refine ⟨decode_rxByte_word b, fun hrun => ?_⟩
  split
  case isTrue hroom => exact exec_rxByte_of_room hrun b hroom
  case isFalse hfull => exact exec_rxByte_of_full hrun b hfull

/-- Settles O12: the global guard is RX_SILENCE's whole guard. -/
theorem rxSilenceSetsThePendingTimeout : Obligations.RxSilenceSetsThePendingTimeout :=
  ⟨decode_encode .rxSilence, fun _ => exec_rxSilence⟩

/-- Settles O13: the guard is an idle context with a request, and the effect is the entry. -/
theorem isrEntryLatchesTheTimeout : Obligations.IsrEntryLatchesTheTimeout := by
  refine ⟨decode_encode .isrEntry, fun s hrun => ⟨exec_isrEntry hrun, fun hshut => exec_of_not_enabled ?_⟩⟩
  rintro ⟨-, hidle, hreq⟩
  obtain hbusy | ⟨hempty, hnone⟩ := hshut
  · exact hbusy hidle
  · exact hreq.elim (· hempty) (by simp [hnone])

/-- Settles O14: a byte with room goes to the cell at the cursor, and otherwise the loop ends. -/
theorem isrDrainMovesOneByteOrEnds : Obligations.IsrDrainMovesOneByteOrEnds := by
  refine ⟨decode_encode .isrDrain, fun s hrun => ⟨fun hat => ?_, fun hat b rest hfifo hroom => ?_, fun hat hend => ?_⟩⟩
  · exact exec_of_not_enabled fun henabled => hat henabled.2
  · exact ⟨_, exec_isrDrain_of_byte hrun hat hfifo hroom, Memory.read_write_self _ _ _,
      fun a ha => Memory.read_write_other _ _ _ _ ha, index_succ_toNat hroom, rfl⟩
  · exact exec_isrDrain_of_end hrun hat hend

/-- Settles O15: the exit closes the packet in one of three ways, then leaves the context. -/
theorem isrExitDeliversFlushesOrKeeps : Obligations.IsrExitDeliversFlushesOrKeeps := by
  refine ⟨decode_encode .isrExit, fun s hrun => ⟨fun hat => ?_, fun hat => ?_⟩⟩
  · exact exec_of_not_enabled fun henabled => hat henabled.2
  · rw [exec_isrExit hrun hat]
    congr 1
    split
    case isTrue hfull => rw [State.closePacket_of_full hfull]; rfl
    case isFalse hshort =>
      split
      case isTrue hdue =>
        rw [State.closePacket_of_flush hshort hdue]
        cases hpolicy : s.cfg.timeoutPolicy <;> simp [State.leaveIsr, State.readyAfterFlush, hpolicy]
      case isFalse hdue => rw [State.closePacket_of_kept hshort hdue]; rfl

/-! ### The stream of received bytes -/

theorem State.received_drop_cursor (s : State) : s.received.drop s.cursor.toNat = s.rxFifo.map some := by
  simp [State.received]

theorem State.received_of_cursor_zero {s : State} (h : s.cursor = 0) : s.received = s.rxFifo.map some := by
  simp [State.received, h]

theorem State.length_received (s : State) : s.received.length = s.cursor.toNat + s.rxFifo.length := by
  simp [State.received]

theorem State.received_getElem?_cell {s : State} {a : Nat} (ha : a < s.cursor.toNat) :
    s.received[a]? = some (Memory.read s.rxBuf a) := by
  rw [State.received, List.getElem?_append_left (by simpa using ha)]
  simp [ha]

theorem State.received_getElem?_queued (s : State) (j : Nat) :
    s.received[s.cursor.toNat + j]? = s.rxFifo[j]?.map some := by
  rw [← List.getElem?_drop, State.received_drop_cursor, List.getElem?_map]

/-- A drained byte moves from the front of the FIFO to the end of the cells below the cursor (R104). -/
theorem State.received_drainByte {s : State} {b : Byte} {rest : List Byte} (hfifo : s.rxFifo = b :: rest)
    (hroom : s.cursor.toNat < 64) : (s.drainByte b rest).received = s.received := by
  have hcells : (List.range s.cursor.toNat).map (Memory.read (Memory.write s.rxBuf s.cursor.toNat b)) =
      (List.range s.cursor.toNat).map (Memory.read s.rxBuf) := by
    refine List.map_congr_left fun a ha => Memory.read_write_other _ _ _ _ ?_
    exact (List.mem_range.1 ha).ne
  simp only [State.received, State.drainByte_cursor, State.drainByte_rxBuf, State.drainByte_rxFifo]
  rw [index_succ_toNat hroom, List.range_succ, List.map_append, hcells, hfifo]
  simp

theorem State.received_closePacket_leaveIsr (s : State) : s.closePacket.leaveIsr.received =
    if s.cursor.toNat = 64 ∨ (s.isrTout = true ∧ 0 < s.cursor.toNat) then s.received.drop s.cursor.toNat
    else s.received := by
  rw [State.received_drop_cursor]
  by_cases hfull : s.cursor.toNat = 64
  · rw [if_pos (.inl hfull), State.closePacket_of_full hfull]
    exact State.received_of_cursor_zero rfl
  by_cases hdue : s.isrTout = true ∧ 0 < s.cursor.toNat
  · rw [if_pos (.inr hdue), State.closePacket_of_flush hfull hdue]
    exact State.received_of_cursor_zero rfl
  · rw [if_neg (not_or.2 ⟨hfull, hdue⟩), State.closePacket_of_kept hfull hdue]
    rfl

/-- Settles O47: four transitions touch the cells below the cursor, the cursor or the FIFO, each as stated. -/
theorem receivedBytesKeepArrivalOrder : Obligations.ReceivedBytesKeepArrivalOrder := by
  intro i s t h hreset
  cases takes_of_exec h hreset with
  | byteQueued hroom => simp [State.received, hroom]
  | byteLost hfull => exact (if_neg (Nat.not_lt.2 hfull)).symm
  | byteDrained hat hfifo hroom => exact State.received_drainByte hfifo hroom
  | isrLeft hat => exact s.received_closePacket_leaveIsr
  | cursorRejected hat => exact (State.received_of_cursor_zero rfl).trans s.received_drop_cursor.symm
  | _ => rfl

end Sys2Proof.Machine
end

section
/-! PROOF. Whole invocations of the receive interrupt (41_framer R107 to R109; 30_encoding R78): what the drain loop
moves, the run of one invocation, and packets delivered one byte at a time. -/

namespace Sys2Proof.Machine

/-! ### What the drain loop does -/

/-- `t` is `s` after its drain loop has moved `n` bytes to the cells behind the cursor (R104). -/
structure State.Drained (s : State) (n : Nat) (t : State) : Prop where
  rxFifo : t.rxFifo = s.rxFifo.drop n
  cursor : t.cursor.toNat = s.cursor.toNat + n
  received : t.received = s.received
  otherCells : ∀ a, a < s.cursor.toNat ∨ s.cursor.toNat + n ≤ a → Memory.read t.rxBuf a = Memory.read s.rxBuf a
  frame : t = { s with rxBuf := t.rxBuf, cursor := t.cursor, rxFifo := t.rxFifo, parseDirty := t.parseDirty }

section
variable {s t : State} {n : Nat}

theorem State.Drained.refl (s : State) : s.Drained 0 s := ⟨rfl, rfl, rfl, fun _ _ => rfl, rfl⟩

theorem State.Drained.of_drainByte {b : Byte} {rest : List Byte} (hfifo : s.rxFifo = b :: rest)
    (hroom : s.cursor.toNat < 64) (h : (s.drainByte b rest).Drained n t) : s.Drained (n + 1) t where
  rxFifo := by rw [h.rxFifo, State.drainByte_rxFifo, hfifo, List.drop_succ_cons]
  cursor := by rw [h.cursor, State.drainByte_cursor, index_succ_toNat hroom]; omega
  received := h.received.trans (State.received_drainByte hfifo hroom)
  otherCells a ha := by
    rw [h.otherCells a (by rw [State.drainByte_cursor, index_succ_toNat hroom]; omega)]
    exact Memory.read_write_other _ _ _ _ (by omega)
  frame := h.frame

theorem State.Drained.running (h : s.Drained n t) (hrun : s.Running) : t.Running := by
  rw [h.frame]
  exact hrun

theorem State.Drained.isrPc (h : s.Drained n t) : t.isrPc = s.isrPc := by rw [h.frame]

theorem State.Drained.isrTout (h : s.Drained n t) : t.isrTout = s.isrTout := by rw [h.frame]

theorem State.Drained.ready (h : s.Drained n t) : t.ready = s.ready := by rw [h.frame]

theorem State.Drained.mainPc (h : s.Drained n t) : t.mainPc = s.mainPc := by rw [h.frame]

/-- The bytes moved stand in the cells behind the old cursor, in order. -/
theorem State.Drained.read_moved (h : s.Drained n t) (hn : n ≤ s.rxFifo.length) {j : Nat} (hj : j < n) :
    Memory.read t.rxBuf (s.cursor.toNat + j) = s.rxFifo[j]? := by
  have hqueued := s.received_getElem?_queued j
  have hcell : s.cursor.toNat + j < t.cursor.toNat := by rw [h.cursor]; omega
  rw [← h.received, State.received_getElem?_cell hcell, List.getElem?_eq_getElem (by omega)] at hqueued
  rw [Option.some.inj hqueued, List.getElem?_eq_getElem]

theorem execAll_drain (hrun : s.Running) (hat : s.isrPc = .drain) (hqueued : n ≤ s.rxFifo.length)
    (hroom : s.cursor.toNat + n ≤ 64) : ∃ t, execAll (List.replicate n .isrDrain) s = .next t ∧ s.Drained n t := by
  induction n generalizing s with
  | zero => exact ⟨s, rfl, .refl s⟩
  | succ n ih =>
    obtain ⟨b, rest, hfifo⟩ := List.exists_cons_of_length_pos (l := s.rxFifo) (by omega)
    have hbelow : s.cursor.toNat < 64 := by omega
    have hrest : n ≤ (s.drainByte b rest).rxFifo.length := by simpa [hfifo] using hqueued
    have hcursor : (s.drainByte b rest).cursor.toNat + n ≤ 64 := by
      rw [State.drainByte_cursor, index_succ_toNat hbelow]; omega
    obtain ⟨t, hexec, ht⟩ := ih (s := s.drainByte b rest) hrun hat hrest hcursor
    refine ⟨t, ?_, ht.of_drainByte hfifo hbelow⟩
    rw [List.replicate_succ, execAll_cons_of_next (exec_isrDrain_of_byte hrun hat hfifo hbelow), hexec]

/-! ### One invocation -/

theorem isrMoves_le_length (s : State) : isrMoves s ≤ s.rxFifo.length := Nat.min_le_left _ _

theorem cursor_add_isrMoves_le (hcursor : s.cursor.toNat ≤ 64) : s.cursor.toNat + isrMoves s ≤ 64 := by
  simp only [isrMoves, pktSize]
  omega

/-- After that many moves the loop has nothing left to do: the FIFO is empty or the buffer full. -/
theorem State.Drained.loop_ends (h : s.Drained (isrMoves s) t) : t.rxFifo = [] ∨ 64 ≤ t.cursor.toNat := by
  rw [h.rxFifo, h.cursor, List.drop_eq_nil_iff]
  simp only [isrMoves, pktSize]
  omega

/-- An invocation enters, drains what fits, and closes the packet (R103 to R105). -/
theorem execAll_isrRun (hrun : s.Running) (hidle : s.isrPc = .idle)
    (hreq : s.rxFifo ≠ [] ∨ s.rxToutPending = true) (hcursor : s.cursor.toNat ≤ 64) :
    ∃ t, execAll (Pseudo.isrRun.expand s) s = .next t.endDrain.closePacket.leaveIsr ∧
      s.enterIsr.Drained (isrMoves s) t := by
  obtain ⟨t, hdrain, ht⟩ := execAll_drain (s := s.enterIsr) hrun rfl (isrMoves_le_length s)
    (cursor_add_isrMoves_le hcursor)
  have hend : exec .isrDrain t = .next t.endDrain := exec_isrDrain_of_end (ht.running hrun) ht.isrPc ht.loop_ends
  have hexit : exec .isrExit t.endDrain = .next t.endDrain.closePacket.leaveIsr := exec_isrExit (ht.running hrun) rfl
  refine ⟨t, ?_, ht⟩
  rw [Pseudo.expand, execAll_cons_of_next (exec_isrEntry hrun hidle hreq), List.replicate_succ', List.append_assoc,
    execAll_append_of_next hdrain, List.singleton_append, execAll_cons_of_next hend, execAll_cons_of_next hexit,
    execAll_nil]

/-- Settles O52: the loop moves the lesser of the queue and the room, and the exit closes what it finds. -/
theorem interruptRunDrainsUpToCapacity : Obligations.InterruptRunDrainsUpToCapacity := by
  rintro s k hrun hidle hreq hcursor rfl
  obtain ⟨t, hexec, ht⟩ := execAll_isrRun hrun hidle hreq hcursor
  refine ⟨_, hexec, rfl, ht.mainPc, ht.rxFifo, fun j => ht.read_moved (isrMoves_le_length s),
    ht.otherCells, fun hfull => ?_, fun hshort hnone => ?_⟩
  · have hat : t.endDrain.cursor.toNat = 64 := ht.cursor.trans hfull
    rw [State.closePacket_of_full hat]
    exact ⟨rfl, rfl⟩
  · have hat : t.endDrain.cursor.toNat ≠ 64 := (ht.cursor.trans_lt hshort).ne
    have htout : t.endDrain.isrTout = false := ht.isrTout.trans hnone
    rw [State.closePacket_of_kept hat (by rw [htout]; nofun)]
    exact ⟨ht.ready, ht.cursor⟩

end

/-! ### Bytes read off the stream -/

/-- Between two moments with an empty FIFO, what the stream has gained stands in the cells behind the old cursor. -/
theorem cells_of_received {s t : State} {bs : List Byte} (hs : s.rxFifo = []) (ht : t.rxFifo = [])
    (h : t.received = s.received ++ bs.map some) :
    t.cursor.toNat = s.cursor.toNat + bs.length ∧
      (∀ (a : Nat) (ha : a < bs.length), Memory.read t.rxBuf (s.cursor.toNat + a) = some bs[a]) ∧
      ∀ a, a < s.cursor.toNat → Memory.read t.rxBuf a = Memory.read s.rxBuf a := by
  have hslen : s.received.length = s.cursor.toNat := by rw [State.length_received, hs]; rfl
  have htlen : t.received.length = t.cursor.toNat := by rw [State.length_received, ht]; rfl
  have hcursor : t.cursor.toNat = s.cursor.toNat + bs.length := by rw [← htlen, h, List.length_append, hslen]; simp
  refine ⟨hcursor, fun a ha => ?_, fun a ha => ?_⟩
  · have hcell := State.received_getElem?_cell (s := t) (a := s.cursor.toNat + a) (by omega)
    rw [h, List.getElem?_append_right (by omega), hslen] at hcell
    simpa [ha] using hcell.symm
  · have hcell := State.received_getElem?_cell (s := t) (a := a) (by omega)
    rw [h, List.getElem?_append_left (by omega), State.received_getElem?_cell ha] at hcell
    exact (Option.some.inj hcell).symm

/-! ### Bytes delivered one at a time -/

/-- The framer waits for a byte: nothing is queued, pending or under way. -/
structure State.Listening (s : State) : Prop where
  running : s.Running
  idle : s.isrPc = .idle
  empty : s.rxFifo = []
  noTimeout : s.rxToutPending = false
  depth : 1 ≤ s.cfg.rxFifoDepth

/-- `t` is `s` after the bytes `bs` have been received and drained. -/
structure State.Collected (s : State) (bs : List Byte) (t : State) : Prop where
  received : t.received = s.received ++ bs.map some
  frame : t = { s with
    rxBuf := t.rxBuf
    cursor := t.cursor
    parseDirty := t.parseDirty
    isrPc := t.isrPc
    isrTout := t.isrTout }

section
variable {s t u : State} {bs cs : List Byte}

theorem State.Collected.trans (h : s.Collected bs t) (h' : t.Collected cs u) : s.Collected (bs ++ cs) u where
  received := by rw [h'.received, h.received, List.map_append, List.append_assoc]
  frame := by
    have hu := h'.frame
    rw [h.frame] at hu
    exact hu

theorem State.Collected.rxFifo (h : s.Collected bs t) : t.rxFifo = s.rxFifo := by rw [h.frame]

theorem State.Collected.ready (h : s.Collected bs t) : t.ready = s.ready := by rw [h.frame]

theorem State.Collected.mainPc (h : s.Collected bs t) : t.mainPc = s.mainPc := by rw [h.frame]

theorem State.Collected.cfg (h : s.Collected bs t) : t.cfg = s.cfg := by rw [h.frame]

theorem State.Collected.listening (h : s.Collected bs t) (hs : s.Listening) (hidle : t.isrPc = .idle) :
    t.Listening := by
  rw [h.frame]
  exact ⟨hs.running, hidle, hs.empty, hs.noTimeout, hs.depth⟩

theorem State.Listening.cursor_of_collected (hs : s.Listening) (h : s.Collected bs t) :
    t.cursor.toNat = s.cursor.toNat + bs.length :=
  (cells_of_received hs.empty (h.rxFifo.trans hs.empty) h.received).1

/-- A byte and its invocation: the byte is drained, and the exit meets no timeout (R100 to R105). -/
theorem State.Listening.execAll_deliverOne (hs : s.Listening) (hcursor : s.cursor.toNat < 64) (b : Byte) :
    ∃ t, execAll (deliverEach [b]) s = .next t.closePacket.leaveIsr ∧ s.Collected [b] t ∧ t.isrTout = false := by
  have hpush := exec_rxByte_of_room hs.running b (by rw [hs.empty]; exact hs.depth)
  rw [hs.empty, List.nil_append] at hpush
  have hmoves : isrMoves { s with rxFifo := [b] } = 1 := by simp only [isrMoves, pktSize, List.length_singleton]; omega
  obtain ⟨t, hexec, ht⟩ := execAll_isrRun (s := { s with rxFifo := [b] }) hs.running hs.idle (.inl (by simp)) hcursor.le
  rw [Pseudo.expand, hmoves] at hexec
  rw [hmoves] at ht
  refine ⟨t.endDrain, (execAll_cons_of_next hpush).trans hexec, ⟨?_, ?_⟩, ?_⟩
  · refine ht.received.trans ?_
    simp [State.received, hs.empty]
  · have hframe := ht.frame
    rw [ht.rxFifo] at hframe
    rw [hframe]
    simp [State.endDrain, State.enterIsr, hs.empty, hs.noTimeout]
  · exact ht.isrTout.trans hs.noTimeout

theorem deliverEach_append (bs cs : List Byte) : deliverEach (bs ++ cs) = deliverEach bs ++ deliverEach cs :=
  List.flatMap_append

/-- Short of a full packet the bytes accumulate behind the cursor and nothing becomes ready (R105). -/
theorem State.Listening.execAll_deliver_partial (hs : s.Listening) (hshort : s.cursor.toNat + bs.length < 64) :
    ∃ t, execAll (deliverEach bs) s = .next t ∧ s.Collected bs t ∧ t.isrPc = .idle := by
  induction bs generalizing s with
  | nil => exact ⟨s, rfl, ⟨by simp, rfl⟩, hs.idle⟩
  | cons b bs ih =>
    rw [List.length_cons] at hshort
    obtain ⟨t, hone, hcollected, htout⟩ := hs.execAll_deliverOne (by omega) b
    have hcursor : t.cursor.toNat = s.cursor.toNat + 1 := hs.cursor_of_collected hcollected
    rw [State.closePacket_of_kept (by omega) (by simp [htout])] at hone
    have hleft : s.Collected [b] t.leaveIsr := ⟨hcollected.received, by rw [hcollected.frame]; rfl⟩
    obtain ⟨u, hrest, hu, hidle⟩ := ih (hleft.listening hs rfl) (by rw [State.leaveIsr_cursor, hcursor]; omega)
    refine ⟨u, ?_, hleft.trans hu, hidle⟩
    rw [← List.singleton_append, deliverEach_append, execAll_append_of_next hone, hrest]

/-- The byte that fills the buffer makes the packet ready and returns the cursor (R105). -/
theorem State.Listening.execAll_deliver_full (hs : s.Listening) (hbs : bs ≠ [])
    (hfull : s.cursor.toNat + bs.length = 64) :
    ∃ t, execAll (deliverEach bs) s = .next { t with ready := true, cursor := 0, isrTout := false, isrPc := .idle } ∧
      s.Collected bs t := by
  obtain ⟨init, last, rfl⟩ := (List.eq_nil_or_concat' bs).resolve_left hbs
  rw [List.length_append, List.length_singleton] at hfull
  obtain ⟨t, hinit, ht, hidle⟩ := hs.execAll_deliver_partial (bs := init) (by omega)
  have hcursor := hs.cursor_of_collected ht
  obtain ⟨u, hlast, hu, -⟩ := (ht.listening hs hidle).execAll_deliverOne (by omega) last
  have hsu := ht.trans hu
  have hend : u.cursor.toNat = 64 := by rw [hs.cursor_of_collected hsu, List.length_append]; exact hfull
  rw [State.closePacket_of_full hend] at hlast
  exact ⟨u, by rw [deliverEach_append, execAll_append_of_next hinit, hlast]; rfl, hsu⟩

end

/-- Settles O50: the 64th byte finds the buffer filled with the bytes received. -/
theorem fullPacketIsDeliveredInArrivalOrder : Obligations.FullPacketIsDeliveredInArrivalOrder := by
  intro s p hrun hidle hzero hempty hnone hdepth
  have hs : s.Listening := ⟨hrun, hidle, hempty, hnone, hdepth⟩
  have hlen : p.toList.length = 64 := p.length_toList
  obtain ⟨t, hexec, ht⟩ := hs.execAll_deliver_full (bs := p.toList) (by rintro h; simp [h] at hlen) (by omega)
  have hfifo : t.rxFifo = [] := ht.rxFifo.trans hempty
  obtain ⟨-, hcells, -⟩ := cells_of_received hempty hfifo ht.received
  refine ⟨_, hexec, rfl, rfl, rfl, hfifo, ht.mainPc, fun a ha => ?_⟩
  have hcell := hcells a (by omega)
  rw [hzero, Nat.zero_add] at hcell
  simpa using hcell

/-- A timeout with a partial packet and nothing queued: the invocation it asks for flushes (R102 to R106). -/
theorem execAll_flush {s : State} (hrun : s.Running) (hidle : s.isrPc = .idle) (htout : s.rxToutPending = true)
    (hempty : s.rxFifo = []) (hpos : 0 < s.cursor.toNat) (hshort : s.cursor.toNat ≠ 64) :
    execAll [.isrEntry, .isrDrain, .isrExit] s = .next { s with
      ready := s.readyAfterFlush, cursor := 0, rxToutPending := false, isrTout := false, isrPc := .idle } := by
  have hend : exec .isrDrain s.enterIsr = .next s.enterIsr.endDrain := exec_isrDrain_of_end hrun rfl (.inl hempty)
  have hexit : exec .isrExit s.enterIsr.endDrain = .next s.enterIsr.endDrain.closePacket.leaveIsr :=
    exec_isrExit hrun rfl
  have hflush : s.enterIsr.endDrain.closePacket =
      { s.enterIsr.endDrain with ready := s.readyAfterFlush, cursor := 0 } :=
    State.closePacket_of_flush hshort ⟨htout, hpos⟩
  rw [execAll_cons_of_next (exec_isrEntry hrun hidle (.inr htout)), execAll_cons_of_next hend,
    execAll_cons_of_next hexit, execAll_nil, hflush]
  rfl

theorem State.Listening.execAll_silenceRun {s : State} (hs : s.Listening) (hpos : 0 < s.cursor.toNat)
    (hshort : s.cursor.toNat ≠ 64) :
    execAll silenceRun s = .next { s with
      ready := s.readyAfterFlush, cursor := 0, rxToutPending := false, isrTout := false, isrPc := .idle } :=
  (execAll_cons_of_next (exec_rxSilence hs.running)).trans
    (execAll_flush hs.running hs.idle rfl hs.empty hpos hshort)

/-- Settles O51: the flush leaves a listening framer at cursor 0, from where the packet is delivered as in O50. -/
theorem shortPacketIsDiscardedWhole : Obligations.ShortPacketIsDiscardedWhole := by
  intro s short p hrun hidle hzero hempty hnone hready hdepth hpolicy hpos hshort
  have hs : s.Listening := ⟨hrun, hidle, hempty, hnone, hdepth⟩
  obtain ⟨v, hexec, hv, hvidle⟩ := hs.execAll_deliver_partial (bs := short) (by omega)
  have hcursor := hs.cursor_of_collected hv
  have hlistens := hv.listening hs hvidle
  have hsilence := hlistens.execAll_silenceRun (by omega) (by omega)
  have hkept : v.readyAfterFlush = false := by
    rw [State.readyAfterFlush, hv.cfg, hpolicy]
    exact hv.ready.trans hready
  obtain ⟨t, hpacket, hset, hreset, -, -, -, hcells⟩ := fullPacketIsDeliveredInArrivalOrder
    { v with ready := v.readyAfterFlush, cursor := 0, rxToutPending := false, isrTout := false, isrPc := .idle } p
    hlistens.running rfl rfl hlistens.empty rfl hlistens.depth
  exact ⟨_, t, (execAll_append_of_next hexec).trans hsilence, hkept, rfl, hpacket, hset, hreset, hcells⟩

end Sys2Proof.Machine
end

section
/-! PROOF. Packets assembled under any schedule of the agents (41_framer R107): until its exit a packet only gathers
bytes, and after a delivery nothing asks for an invocation. -/

namespace Sys2Proof.Machine

/-! ### Undisturbed runs -/

theorem arrivals_cons (i : Instr) (is : List Instr) : arrivals (i :: is) = arrivals [i] ++ arrivals is := by
  cases i <;> rfl

theorem runUndisturbed_cons {i : Instr} {is : List Instr} {s u : State} :
    runUndisturbed (i :: is) s = some u ↔
      s.undisturbed i = true ∧ ∃ t, exec i s = .next t ∧ runUndisturbed is t = some u := by
  rw [runUndisturbed]
  cases s.undisturbed i <;> cases exec i s <;> simp

theorem runUndisturbed_append {is js : List Instr} {s u : State} :
    runUndisturbed (is ++ js) s = some u ↔ ∃ t, runUndisturbed is s = some t ∧ runUndisturbed js t = some u := by
  induction is generalizing s with
  | nil => simp [runUndisturbed]
  | cons i is ih =>
    simp only [List.cons_append, runUndisturbed_cons, ih]
    constructor
    · rintro ⟨hquiet, v, hexec, t, his, hjs⟩; exact ⟨t, ⟨hquiet, v, hexec, his⟩, hjs⟩
    · rintro ⟨t, ⟨hquiet, v, hexec, his⟩, hjs⟩; exact ⟨hquiet, v, hexec, t, his, hjs⟩

theorem not_resets_of_undisturbed {i : Instr} {s : State} (h : s.undisturbed i = true) : ¬ s.Resets i := by
  rintro (rfl | ⟨rfl, hexpires⟩)
  · cases h
  · rw [State.undisturbed, (s.resets_tick_iff).1 (.inr ⟨rfl, hexpires⟩)] at h
    cases h

/-! ### The two situations of the framer -/

/-- A packet is under way: its stream so far is `r`, and no timeout is on its way to ISR_EXIT. -/
structure State.Gathers (s : State) (r : List (Option Byte)) : Prop where
  received : s.received = r
  noTimeout : s.rxToutPending = false
  noneLatched : s.isrPc ≠ .idle → s.isrTout = false

/-- The framer is idle and nothing asks for an invocation. -/
structure State.Settled (s : State) : Prop where
  idle : s.isrPc = .idle
  empty : s.rxFifo = []
  noTimeout : s.rxToutPending = false

section
variable {i : Instr} {is : List Instr} {s t : State} {r : List (Option Byte)}

/-- With nothing to ask for it no invocation starts until a byte arrives (R102). -/
theorem State.Settled.step (hs : s.Settled) (hquiet : s.undisturbed i = true) (hexec : exec i s = .next t)
    (hnone : arrivals [i] = []) : t.Settled := by
  have hbusy {p : IsrPc} (hat : s.isrPc = p) (hp : p ≠ .idle) : t.Settled := absurd (hat.symm.trans hs.idle) hp
  cases takes_of_exec hexec (not_resets_of_undisturbed hquiet) with
  | byteQueued => cases hnone
  | silence => cases hquiet
  | isrEntered hidle hreq => exact (hreq.elim (· hs.empty) (by simp [hs.noTimeout])).elim
  | byteDrained hat | drainEnded hat | isrLeft hat => exact hbusy hat (by decide)
  | _ => exact ⟨hs.idle, hs.empty, hs.noTimeout⟩

theorem State.Settled.run (hs : s.Settled) (hrun : runUndisturbed is s = some t) (hnone : arrivals is = []) :
    t.Settled := by
  induction is generalizing s with
  | nil => cases hrun; exact hs
  | cons i is ih =>
    obtain ⟨hquiet, u, hexec, hrest⟩ := runUndisturbed_cons.1 hrun
    rw [arrivals_cons, List.append_eq_nil_iff] at hnone
    exact ih (hs.step hquiet hexec hnone.1) hrest hnone.2

/-- A step extends the stream by what arrives, unless it is the exit that delivers a full packet: then nothing is left
(R104, R105, R107). -/
theorem State.Gathers.step (hs : s.Gathers r) (hlen : r.length ≤ 64) (hquiet : s.undisturbed i = true)
    (hexec : exec i s = .next t) :
    t.Gathers (r ++ (arrivals [i]).map some) ∨ (t.Settled ∧ r.length = 64) := by
  obtain ⟨rfl, hnone, hlatch⟩ := hs
  cases takes_of_exec hexec (not_resets_of_undisturbed hquiet) with
  | byteQueued => exact .inl ⟨by simp [State.received, arrivals], hnone, hlatch⟩
  | byteLost hfull => exact absurd (s.rxHasRoom_iff.1 hquiet) (Nat.not_lt.2 hfull)
  | silence | cursorRejected => cases hquiet
  | isrEntered => exact .inl ⟨(List.append_nil _).symm, rfl, fun _ => hnone⟩
  | byteDrained hat hfifo hroom =>
    exact .inl ⟨(State.received_drainByte hfifo hroom).trans (List.append_nil _).symm, hnone, hlatch⟩
  | drainEnded hat => exact .inl ⟨(List.append_nil _).symm, hnone, fun _ => hlatch (by simp [hat])⟩
  | isrLeft hat =>
    have hlength := s.length_received
    by_cases hfull : s.cursor.toNat = 64
    · have hempty : s.rxFifo = [] := List.eq_nil_of_length_eq_zero (by omega)
      exact .inr ⟨⟨rfl, hempty, hnone⟩, by omega⟩
    · have htout : s.isrTout = false := hlatch (by simp [hat])
      rw [State.closePacket_of_kept hfull (by simp [htout])]
      exact .inl ⟨(List.append_nil _).symm, hnone, fun _ => rfl⟩
  | _ => exact .inl ⟨(List.append_nil _).symm, hnone, hlatch⟩

theorem State.Gathers.run (hs : s.Gathers r) (hlen : r.length + (arrivals is).length ≤ 64)
    (hrun : runUndisturbed is s = some t) : t.Gathers (r ++ (arrivals is).map some) ∨ t.Settled := by
  induction is generalizing s r with
  | nil => cases hrun; exact .inl (by simpa [arrivals] using hs)
  | cons i is ih =>
    obtain ⟨hquiet, u, hexec, hrest⟩ := runUndisturbed_cons.1 hrun
    rw [arrivals_cons, List.length_append] at hlen
    obtain hu | ⟨hu, hfull⟩ := hs.step (by omega) hquiet hexec
    · rw [arrivals_cons, List.map_append, ← List.append_assoc]
      exact ih hu (by simp only [List.length_append, List.length_map]; omega) hrest
    · exact .inr (hu.run hrest (List.eq_nil_of_length_eq_zero (by omega)))

end

/-- Settles O49: until its exit a packet only gathers bytes, and the last exit cannot follow an earlier delivery, after
which nothing asks for an invocation. -/
theorem packetsAssembleUnderAnySchedule : Obligations.PacketsAssembleUnderAnySchedule := by
  intro is s t hidle hcursor hempty hnone hfits hrun hdrained
  obtain ⟨u, hbefore, hlast⟩ := runUndisturbed_append.1 hrun
  obtain ⟨-, t', hexec, heq⟩ := runUndisturbed_cons.1 hlast
  cases heq
  obtain ⟨⟨-, hat⟩, rfl⟩ := execIsrExit_eq_next.1 hexec
  have hs : s.Gathers s.received := ⟨rfl, hnone, absurd hidle⟩
  have hlength : s.received.length = s.cursor.toNat := by rw [State.length_received, hempty]; rfl
  obtain hu | hu := hs.run (by omega) hbefore
  · have huempty : u.rxFifo = [] := hdrained
    obtain ⟨hreach, hcells, hbelow⟩ := cells_of_received hempty huempty hu.received
    refine ⟨hcells, hbelow, fun hfull => ?_, fun hshort => ?_⟩
    · rw [State.closePacket_of_full (hreach.trans hfull)]
      exact ⟨rfl, rfl⟩
    · have htout : u.isrTout = false := hu.noneLatched (by simp [hat])
      rw [State.closePacket_of_kept (by omega) (by simp [htout])]
      exact hreach
  · exact absurd (hat.symm.trans hu.idle) (by decide)

end Sys2Proof.Machine
end

section
/-! PROOF. The connect wait and the tail disposal step by step (42_connect R120 to R130): what each of the ten steps
does where the main sequencer stands at it. -/

namespace Sys2Proof.Machine

/-! ### The command code -/

/-- A byte appended below a value is its low byte (20_memory R52). -/
theorem toNat_append_byte {n : Nat} (x : BitVec n) (b : Byte) : (x ++ b).toNat = x.toNat * 2 ^ 8 + b.toNat := by
  rw [BitVec.toNat_append, ← Nat.shiftLeft_add_eq_or_of_lt b.isLt, Nat.shiftLeft_eq]

theorem toNat_littleEndian (b0 b1 b2 b3 : Byte) :
    (b3 ++ b2 ++ b1 ++ b0).toNat = b0.toNat + b1.toNat * 2 ^ 8 + b2.toNat * 2 ^ 16 + b3.toNat * 2 ^ 24 := by
  rw [toNat_append_byte, toNat_append_byte, toNat_append_byte]
  ring

section
variable {s : State}

/-- CW_READ finds the four bytes that the cells 0 to 3 hold (R122). -/
theorem State.memRead_peek {b0 b1 b2 b3 : Byte} (h0 : Memory.read s.rxBuf 0 = some b0)
    (h1 : Memory.read s.rxBuf 1 = some b1) (h2 : Memory.read s.rxBuf 2 = some b2)
    (h3 : Memory.read s.rxBuf 3 = some b3) : s.memRead .rxBuf 0 peekBytes = .ok #v[b0, b1, b2, b3] := by
  rw [State.memRead_ok_iff]
  intro i hi
  match i, hi with
  | 0, _ => exact h0
  | 1, _ => exact h1
  | 2, _ => exact h2
  | 3, _ => exact h3

/-- CW_READ faults at the cell below which all are written (R122, R170). -/
theorem State.memRead_peek_unwritten {k : Nat} (hk : k < 4) (hnone : Memory.read s.rxBuf k = none)
    (hbelow : Memory.Written s.rxBuf k) :
    s.memRead .rxBuf 0 peekBytes = .error { code := .unwrittenRead, space := .rxBuf, addr := k } := by
  rw [State.memRead_error_iff, Nat.zero_add]
  exact ⟨rfl, rfl, k.zero_le, hk, hnone, fun j _ hj => Option.isSome_iff_ne_none.1 (hbelow j hj)⟩

/-! ### The steps where they are taken -/

theorem exec_cwTestReady (hat : s.AtMain .cwTestReady) :
    exec .cwTestReady s = .next (s.goMain (if s.ready = true then .cwRead else .cwTestCursor)) :=
  execCwTestReady_eq_next.2 ⟨hat, rfl⟩

theorem exec_cwTestCursor (hat : s.AtMain .cwTestCursor) :
    exec .cwTestCursor s = .next (s.goMain (if 4 ≤ s.cursor.toNat then .cwRead else .cwDeadline)) :=
  execCwTestCursor_eq_next.2 ⟨hat, by simp only [State.peekReady_iff]⟩

theorem exec_cwRead_of_ok (hat : s.AtMain .cwRead) {bs : Vector Byte peekBytes}
    (hmem : s.memRead .rxBuf 0 peekBytes = .ok bs) : exec .cwRead s = .next (s.latchCmd (le32 bs)) :=
  execCwRead_eq_next.2 ⟨hat, .inl ⟨bs, hmem, rfl⟩⟩

theorem exec_cwRead_of_error (hat : s.AtMain .cwRead) {r : FaultRecord}
    (hmem : s.memRead .rxBuf 0 peekBytes = .error r) : exec .cwRead s = .next (s.raiseFault r) :=
  execCwRead_eq_next.2 ⟨hat, .inr ⟨r, hmem, rfl⟩⟩

theorem exec_cwDecide_of_connect (hat : s.AtMain .cwDecide) (hcmd : s.cmdWord = some s.cfg.connectCode) :
    exec .cwDecide s = .next (s.startWdt.goMain s.acceptTarget) :=
  execCwDecide_eq_next.2 ⟨hat, (if_pos (s.cmdIsConnect_iff.2 hcmd)).symm⟩

theorem exec_cwDecide_of_other (hat : s.AtMain .cwDecide) (hcmd : s.cmdWord ≠ some s.cfg.connectCode) :
    exec .cwDecide s = .next (s.goMain .cwRejectReady) :=
  execCwDecide_eq_next.2 ⟨hat, (if_neg (mt s.cmdIsConnect_iff.1 hcmd)).symm⟩

theorem State.cursorZero_eq (s : State) : s.cursorZero = decide (s.cursor.toNat = 0) :=
  decide_eq_decide.2 index_eq_zero_iff

end

/-- Settles O16: each test is one move of `main_pc` on its condition. -/
theorem connectTestsReadTheFlagThenTheCursor : Obligations.ConnectTestsReadTheFlagThenTheCursor :=
  ⟨⟨decode_encode .cwTestReady, decode_encode .cwTestCursor⟩, fun _ => exec_cwTestReady, fun _ => exec_cwTestCursor⟩

/-- Settles O17: MemRead of the cells 0 to 3 gives their bytes, or fails at the lowest UNWRITTEN one. -/
theorem cwReadLatchesTheLittleEndianCode : Obligations.CwReadLatchesTheLittleEndianCode := by
  refine ⟨decode_encode .cwRead, fun s hat => ⟨fun b0 b1 b2 b3 h0 h1 h2 h3 => ?_, fun k hk hnone hbelow => ?_⟩⟩
  · exact ⟨_, exec_cwRead_of_ok hat (State.memRead_peek h0 h1 h2 h3), rfl, toNat_littleEndian b0 b1 b2 b3⟩
  · exact exec_cwRead_of_error hat (State.memRead_peek_unwritten hk hnone hbelow)

/-- Settles O18: the comparison is of the whole code, and the accept is the watchdog's start and a move. -/
theorem cwDecideAcceptsConnectAlone : Obligations.CwDecideAcceptsConnectAlone := by
  refine ⟨decode_encode .cwDecide, fun s v hat hcmd => ⟨?_, fun hne => ?_⟩⟩
  · rintro rfl
    rw [exec_cwDecide_of_connect hat hcmd, State.acceptTarget_eq]
    rfl
  · exact exec_cwDecide_of_other hat (by rw [hcmd]; exact mt Option.some.inj hne)

/-- Settles O19: each step of the reject is one update of the state. -/
theorem rejectReArmsTheFramer : Obligations.RejectReArmsTheFramer :=
  ⟨⟨decode_encode .cwRejectReady, decode_encode .cwRejectCursor⟩,
    fun _ hat => execCwRejectReady_eq_next.2 ⟨hat, rfl⟩, fun _ hat => execCwRejectCursor_eq_next.2 ⟨hat, rfl⟩⟩

/-- Settles O20: the step is one move of `main_pc` on the deadline's flag. -/
theorem cwDeadlineBootsOrLoops : Obligations.CwDeadlineBootsOrLoops :=
  ⟨decode_encode .cwDeadline, fun _ hat => execCwDeadline_eq_next.2 ⟨hat, rfl⟩⟩

/-- Settles O21: the tail reads the cursor, moves on the flag and what it read, and clears the flag. -/
theorem tailDisposalPollsThenClears : Obligations.TailDisposalPollsThenClears :=
  ⟨⟨decode_encode .ctPollCursor, decode_encode .ctPollReady, decode_encode .ctClear⟩,
    fun s hat => execCtPollCursor_eq_next.2 ⟨hat, by rw [s.cursorZero_eq]⟩,
    fun _ hat => execCtPollReady_eq_next.2 ⟨hat, rfl⟩, fun _ hat => execCtClear_eq_next.2 ⟨hat, rfl⟩⟩

end Sys2Proof.Machine
end

section
/-! PROOF. Runs of the main sequencer left alone (30_encoding R78) through Phase A: a CONNECT code in the buffer is
accepted (42_connect R132), and an expired deadline ends the wait (R134), by a rank that every step lowers. -/

namespace Sys2Proof.Machine

section
variable {s t : State} {i : Instr} {m : MainPc} {n : Nat}

/-! ### MAIN steps -/

/-- Every place but BOOTED has its step (R72). -/
theorem exists_mainInstr (h : m ≠ .booted) : ∃ i, mainInstr m = some i := by
  cases m
  case booted => exact absurd rfl h
  all_goals exact ⟨_, rfl⟩

theorem microOp_of_mainInstr (h : mainInstr m = some i) : microOp i = some m := by
  cases m <;> cases h <;> rfl

theorem agent_of_mainInstr (h : mainInstr m = some i) : i.agent = .main := by
  cases m <;> cases h <;> rfl

theorem not_resets_of_main (hi : i.agent = .main) : ¬ s.Resets i := by
  rintro (rfl | ⟨rfl, -⟩) <;> cases hi

theorem State.isrSuccessor_of_main (hi : i.agent = .main) : s.isrSuccessor i = s.isrPc := by
  cases i
  case isrEntry | isrDrain | isrExit => cases hi
  all_goals rfl

/-- A run of the main sequencer is its first step, then the run from where that leads. -/
theorem execAll_mainRun_succ (hinstr : mainInstr s.mainPc = some i) (hexec : exec i s = .next t) :
    execAll (expandMainRun (n + 1) s) s = execAll (expandMainRun n t) t := by
  simp [expandMainRun, hinstr, hexec, execAll]

/-! ### No fault under DISCARD_PARTIAL -/

theorem State.memRead_ne_error {sp : Space} (h : Memory.Written (s.memory sp) n) (r : FaultRecord) :
    s.memRead sp 0 n ≠ .error r := by
  rw [Ne, State.memRead_error_iff]
  rintro ⟨-, -, -, hlt, hnone, -⟩
  exact Option.isSome_iff_ne_none.1 (h r.addr (by omega)) hnone

/-- Under DISCARD_PARTIAL the invariant keeps every cell written that a step reads (R122, R143, R41 (6)). -/
theorem State.Takes.keeps_fault (h : s.Takes i t) (hs : s.Inv) (hpolicy : s.cfg.timeoutPolicy = .discardPartial) :
    t.fault = s.fault := by
  cases h with
  | cmdFaulted hat hmem => exact absurd hmem (State.memRead_ne_error (hs.peekWhole hpolicy hat.mainPc) _)
  | parseFaulted hat hmem =>
    exact absurd hmem (State.memRead_ne_error (hs.takenWhole hpolicy (.inr (.inr hat.mainPc))) _)
  | txFaulted hat hroom hidx hmem =>
    exact absurd hmem (Option.isSome_iff_ne_none.1 (hs.responseWritten hat.mainPc _ hidx))
  | _ => rfl

/-! ### The accept -/

theorem State.phase_acceptTarget (s : State) :
    s.acceptTarget.phase = if s.cfg.connectTailPolicy = .discard then .connectTail else .session := by
  rw [State.acceptTarget_eq]
  split <;> rfl

/-- From CW_READ two steps accept the CONNECT code that stands in the cells 0 to 3 (R122, R123). -/
theorem execAll_read_connect (hat : s.AtMain .cwRead) {bs : Vector Byte peekBytes}
    (hmem : s.memRead .rxBuf 0 peekBytes = .ok bs) (hcode : s.cfg.connectCode = le32 bs) :
    execAll (expandMainRun 2 s) s = .next ((s.latchCmd (le32 bs)).startWdt.goMain s.acceptTarget) := by
  obtain ⟨hfault, hidle, hpc⟩ := id hat
  have hread := exec_cwRead_of_ok hat hmem
  have hdecide := exec_cwDecide_of_connect (s := s.latchCmd (le32 bs)) ⟨hfault, hidle, rfl⟩ (congrArg some hcode.symm)
  rw [execAll_mainRun_succ (by rw [hpc]; rfl) hread, execAll_mainRun_succ rfl hdecide]
  rfl

end

/-- Settles O55: the flag or the cursor leads to CW_READ in one step or two, and two more accept. -/
theorem connectIsAcceptedInFourSteps : Obligations.ConnectIsAcceptedInFourSteps := by
  intro s b0 b1 b2 b3 hat hseen h0 h1 h2 h3 hcode
  obtain ⟨hfault, hidle, hpc⟩ := id hat
  have haccept : execAll (expandMainRun 2 (s.goMain .cwRead)) (s.goMain .cwRead) = _ :=
    execAll_read_connect (s := s.goMain .cwRead) ⟨hfault, hidle, rfl⟩ (State.memRead_peek h0 h1 h2 h3) hcode
  have hinstr : mainInstr s.mainPc = some .cwTestReady := by rw [hpc]; rfl
  have htest := exec_cwTestReady hat
  cases hready : s.ready with
  | true =>
    rw [if_pos hready] at htest
    exact ⟨3, _, by decide, (execAll_mainRun_succ hinstr htest).trans haccept, s.phase_acceptTarget, hready, rfl⟩
  | false =>
    rw [if_neg (by simp [hready])] at htest
    have hpeek : 4 ≤ s.cursor.toNat := hseen.resolve_left (by simp [hready])
    have hcursor := exec_cwTestCursor (s := s.goMain .cwTestCursor) ⟨hfault, hidle, rfl⟩
    rw [State.goMain_cursor, if_pos hpeek] at hcursor
    have hread := (execAll_mainRun_succ (n := 2) rfl hcursor).trans haccept
    exact ⟨4, _, le_rfl, (execAll_mainRun_succ hinstr htest).trans hread, s.phase_acceptTarget, hready, rfl⟩

/-! ### The expired deadline -/

/-- How many MAIN steps can still be taken in Phase A from a place, once the deadline has expired: those of the longest
path, which rejects a code seen through the cursor (R134). -/
def MainPc.stepsToLeave (m : MainPc) : Nat :=
  match m with
  | .cwTestReady => 7
  | .cwTestCursor => 6
  | .cwRead => 5
  | .cwDecide => 4
  | .cwRejectReady => 3
  | .cwRejectCursor => 2
  | .cwDeadline => 1
  | _ => 0

theorem MainPc.stepsToLeave_le (m : MainPc) : m.stepsToLeave ≤ 7 := by cases m <;> decide

theorem MainPc.stepsToLeave_pos {m : MainPc} (h : m.phase = .connectWait) : 0 < m.stepsToLeave := by
  cases m
  case cwTestReady | cwTestCursor | cwRead | cwDecide | cwRejectReady | cwRejectCursor | cwDeadline => decide
  all_goals cases h

section
variable {s t : State} {i : Instr}

/-- Each step of Phase A leads to a later place of it, or out of it (R73, R127). -/
theorem State.microSuccessor_stepsToLeave_lt (hphase : s.phase = .connectWait) (hexp : s.dlExpired = true) :
    s.microSuccessor.stepsToLeave < s.mainPc.stepsToLeave := by
  rw [State.phase] at hphase
  rw [State.microSuccessor]
  cases hpc : s.mainPc <;> rw [hpc] at hphase
  case cwTestReady | cwTestCursor => dsimp only; split <;> decide
  case cwDecide =>
    dsimp only
    split
    · split <;> decide
    · decide
  case cwRead | cwRejectReady | cwRejectCursor => dsimp only; decide
  case cwDeadline => dsimp only; rw [if_pos hexp]; decide
  all_goals cases hphase

/-- The deadline has expired, and the main sequencer is free to step (R134). -/
structure State.Expired (s : State) : Prop where
  inv : s.Inv
  policy : s.cfg.timeoutPolicy = .discardPartial
  safe : s.Safe
  idle : s.isrPc = .idle
  expired : s.dlExpired = true

/-- In Phase A the step in force is taken. -/
theorem State.Expired.exec_taken (hs : s.Expired) (hphase : s.phase = .connectWait) :
    ∃ i t, mainInstr s.mainPc = some i ∧ exec i s = .next t := by
  have hplace {m : MainPc} (hm : m.phase ≠ .connectWait) : s.mainPc ≠ m := by
    rintro rfl
    exact hm hphase
  obtain ⟨i, hinstr⟩ := exists_mainInstr (hplace (m := .booted) (by decide))
  have hop := microOp_of_mainInstr hinstr
  have hnotTx : i ≠ .sTx := by
    rintro rfl
    exact hplace (m := .sTx) (by decide) (Option.some.inj hop).symm
  have henabled : s.Enabled i := (State.enabled_main_iff hop).2 ⟨hs.safe, hs.idle, rfl⟩
  obtain ⟨t, hexec⟩ := enabledStepsAreTaken i s henabled (absurd · hnotTx)
  exact ⟨i, t, hinstr, hexec⟩

/-- A MAIN step raises no fault, keeps the context idle, and keeps the deadline expired (R36). -/
theorem State.Expired.step (hs : s.Expired) (hi : i.agent = .main) (hexec : exec i s = .next t) : t.Expired where
  inv := exec_keeps_inv hexec hs.inv
  policy := by
    obtain ⟨hcfg, -, -⟩ := exec_keeps_cfg_and_trace hexec
    rw [hcfg, hs.policy]
  safe := ((takes_of_exec hexec (not_resets_of_main hi)).keeps_fault hs.inv hs.policy).trans hs.safe
  idle := by rw [(takes_of_exec hexec (not_resets_of_main hi)).isrPc_follows, State.isrSuccessor_of_main hi, hs.idle]
  expired := by
    obtain ⟨-, -, hsticky⟩ := deadlineIsCountedByTickAlone i s t hexec (not_resets_of_main hi)
    exact hsticky hs.expired

/-- From every place the main sequencer leaves Phase A within the steps of its rank, which every step lowers. -/
theorem State.Expired.leaves {n : Nat} (hs : s.Expired) (hn : s.mainPc.stepsToLeave ≤ n) :
    ∃ k t, k ≤ n ∧ execAll (expandMainRun k s) s = .next t ∧ t.phase ≠ .connectWait := by
  induction n generalizing s with
  | zero => exact ⟨0, s, le_rfl, rfl, fun hphase => (MainPc.stepsToLeave_pos hphase).not_ge hn⟩
  | succ n ih =>
    by_cases hphase : s.phase = .connectWait
    case neg => exact ⟨0, s, n.succ.zero_le, rfl, hphase⟩
    case pos =>
      obtain ⟨i, u, hinstr, hexec⟩ := hs.exec_taken hphase
      have hi := agent_of_mainInstr hinstr
      have hu := hs.step hi hexec
      have hpc := (takes_of_exec hexec (not_resets_of_main hi)).mainPc_follows hi
      rw [if_pos (show u.fault = none from hu.safe)] at hpc
      have hlower := State.microSuccessor_stepsToLeave_lt hphase hs.expired
      obtain ⟨k, t, hk, hrun, hleft⟩ := ih hu (by rw [hpc]; omega)
      exact ⟨k + 1, t, Nat.succ_le_succ hk, (execAll_mainRun_succ hinstr hexec).trans hrun, hleft⟩

end

/-- Settles O56: the rank of a place is at most seven. -/
theorem expiredDeadlineEndsPhaseA : Obligations.ExpiredDeadlineEndsPhaseA := by
  intro s hinv hpolicy hsafe hidle _ hexp
  have hs : s.Expired := ⟨hinv, hpolicy, hsafe, hidle, hexp⟩
  obtain ⟨n, t, hn, hrun, hleft⟩ := hs.leaves s.mainPc.stepsToLeave_le
  refine ⟨n, t, hn, hrun, ?_⟩
  cases hphase : t.phase with
  | connectWait => exact absurd hphase hleft
  | connectTail => exact .inr (.inl rfl)
  | session => exact .inr (.inr rfl)
  | booted => exact .inl rfl

end Sys2Proof.Machine
end

section
/-! PROOF. The request/response loop and the line transmitter step by step (43_session R140 to R146): what each step
does where it is taken. -/

namespace Sys2Proof.Machine

/-! ### What the steps read -/

section
variable {s : State} {sp : Space} {p : Packet} {n k : Nat}

/-- A MemRead from cell 0 faults at the cell below which all are written (R170). -/
theorem State.memRead_error_of_unwritten (hk : k < n) (hnone : Memory.read (s.memory sp) k = none)
    (hbelow : Memory.Written (s.memory sp) k) :
    s.memRead sp 0 n = .error { code := .unwrittenRead, space := sp, addr := k } := by
  rw [State.memRead_error_iff, Nat.zero_add]
  exact ⟨rfl, rfl, k.zero_le, hk, hnone, fun j _ hj => Option.isSome_iff_ne_none.1 (hbelow j hj)⟩

theorem State.exists_memRead_ok (h : Memory.Written (s.memory sp) n) : ∃ v, s.memRead sp 0 n = .ok v := by
  cases hmem : s.memRead sp 0 n with
  | ok v => exact ⟨v, rfl⟩
  | error r => exact absurd hmem (State.memRead_ne_error h r)

theorem Memory.readN_packet {m : Memory} (h : ∀ (a : Nat) (ha : a < 64), Memory.read m a = some p[a]) :
    Memory.readN m 0 pktSize = .ok p :=
  (Memory.readN_ok_iff m 0 pktSize p).2 fun a ha => by rw [Nat.zero_add, h a ha]

theorem State.memRead_packet (h : ∀ (a : Nat) (ha : a < 64), Memory.read (s.memory sp) a = some p[a]) :
    s.memRead sp 0 pktSize = .ok p := by
  rw [State.memRead, Memory.readN_packet h]

end

section
variable {s : State} {p : Packet} {b : Byte} {rest : List Byte}

/-! ### The response -/

/-- The latch is a whole request when no byte was drained inside the parse window (R144). -/
theorem State.request_of_whole (hwhole : ∀ (a : Nat) (ha : a < 64), Memory.read s.reqLatch a = some p[a])
    (hclean : s.parseDirty = false) : s.request = some p := by
  rw [State.request, hclean, Memory.readN_packet hwhole]
  rfl

theorem State.request_of_torn (hdirty : s.parseDirty = true) : s.request = none := if_pos hdirty

/-- A whole request is answered by PARSE_FN, and nothing is drawn (R144). -/
theorem State.response_of_request (h : s.request = some p) : s.response = Config.parseFn p := by
  rw [State.response, h]

theorem State.drawsAfterResponse_of_request (h : s.request = some p) : s.drawsAfterResponse = s.draws := by
  rw [State.drawsAfterResponse, h]

/-- With no whole request all 64 bytes are drawn (R144; assumption log 5). -/
theorem State.response_of_no_request (h : s.request = none) : s.response = drawnPacket s.draws := by
  rw [State.response, h]

theorem State.drawsAfterResponse_of_no_request (h : s.request = none) : s.drawsAfterResponse = s.draws + 64 := by
  rw [State.drawsAfterResponse, h]

theorem State.read_closeParse_respBuf (s : State) {a : Nat} (ha : a < 64) :
    Memory.read s.closeParse.respBuf a = some s.response[a] :=
  Memory.read_ofPacket s.response a ha

theorem getElem_drawnPacket (n : Nat) {a : Nat} (ha : a < 64) : (drawnPacket n)[a] = Config.drawByte (n + a) :=
  Vector.getElem_ofFn ha

/-! ### The steps where they are taken -/

theorem exec_sPoll (hat : s.AtMain .sPoll) : exec .sPoll s = .next (if s.ready = true then s.goMain .sKick else s) :=
  execSPoll_eq_next.2 ⟨hat, rfl⟩

theorem exec_sKick (hat : s.AtMain .sKick) :
    exec .sKick s = .next { s with wdtCount := s.wdtCountAfterKick, mainPc := .sClear } :=
  execSKick_eq_next.2 ⟨hat, rfl⟩

theorem exec_sClear (hat : s.AtMain .sClear) :
    exec .sClear s = .next { s with ready := false, mainPc := .sParseBegin } :=
  execSClear_eq_next.2 ⟨hat, rfl⟩

theorem exec_sParseBegin_of_ok (hat : s.AtMain .sParseBegin) (hmem : s.memRead .rxBuf 0 pktSize = .ok p) :
    exec .sParseBegin s = .next (s.openParse p) :=
  execSParseBegin_eq_next.2 ⟨hat, .inl ⟨p, hmem, rfl⟩⟩

theorem exec_sParseBegin_of_error (hat : s.AtMain .sParseBegin) {r : FaultRecord}
    (hmem : s.memRead .rxBuf 0 pktSize = .error r) : exec .sParseBegin s = .next (s.raiseFault r) :=
  execSParseBegin_eq_next.2 ⟨hat, .inr ⟨r, hmem, rfl⟩⟩

theorem exec_sParseEnd (hat : s.AtMain .sParseEnd) : exec .sParseEnd s = .next s.closeParse :=
  execSParseEnd_eq_next.2 ⟨hat, rfl⟩

theorem exec_sTx_of_full (hat : s.AtMain .sTx) (hfull : s.txFifo.length = s.cfg.txFifoDepth) :
    exec .sTx s = .next s :=
  execSTx_eq_next.2 ⟨hat, .inl ⟨hfull, rfl⟩⟩

theorem exec_sTx_of_byte (hat : s.AtMain .sTx) (hroom : s.txFifo.length ≠ s.cfg.txFifoDepth)
    (hidx : s.txIndex.toNat < 64) (hbyte : Memory.read s.respBuf s.txIndex.toNat = some b) :
    exec .sTx s = .next (s.pushTx b) :=
  execSTx_eq_next.2 ⟨hat, .inr ⟨hroom, hidx, .inl ⟨b, hbyte, rfl⟩⟩⟩

theorem exec_sTx_of_unwritten (hat : s.AtMain .sTx) (hroom : s.txFifo.length ≠ s.cfg.txFifoDepth)
    (hidx : s.txIndex.toNat < 64) (hnone : Memory.read s.respBuf s.txIndex.toNat = none) :
    exec .sTx s = .next (s.raiseFault { code := .unwrittenRead, space := .respBuf, addr := s.txIndex.toNat }) :=
  execSTx_eq_next.2 ⟨hat, .inr ⟨hroom, hidx, .inr ⟨hnone, rfl⟩⟩⟩

theorem exec_txTake_of_byte (hrun : s.Running) (hfifo : s.txFifo = b :: rest) :
    exec .txTake s = .next { s with txFifo := rest, txOut := s.txOut ++ [b] } :=
  execTxTake_eq_next.2 ⟨hrun, b, rest, hfifo, rfl⟩

/-- Where S_TX goes, by the index it leaves behind (R145). -/
theorem State.mainPcAfterTx_eq_of_index_succ (hpc : s.mainPc = .sTx) (hidx : s.txIndex.toNat < 64) :
    s.mainPcAfterTx = if (s.txIndex + 1).toNat = 64 then .sPoll else .sTx := by
  rw [index_succ_toNat hidx, State.mainPcAfterTx, hpc]

end

/-! ### The statements -/

/-- Settles O22: each of the three steps is one update of the state. -/
theorem sessionPollsKicksAndClears : Obligations.SessionPollsKicksAndClears :=
  ⟨⟨decode_encode .sPoll, decode_encode .sKick, decode_encode .sClear⟩,
    fun _ => exec_sPoll, fun _ => exec_sKick, fun _ => exec_sClear⟩

/-- Settles O23: MemRead of all 64 cells gives the bytes the latch is made of, or fails at the lowest UNWRITTEN one. -/
theorem sParseBeginCopiesTheBuffer : Obligations.SParseBeginCopiesTheBuffer := by
  refine ⟨decode_encode .sParseBegin, fun s hat => ⟨fun hwritten => ?_, fun k hk hnone hbelow => ?_⟩⟩
  · obtain ⟨p, hmem⟩ := State.exists_memRead_ok (s := s) (sp := .rxBuf) hwritten
    have hcells := (s.memRead_ok_iff .rxBuf 0 pktSize p).1 hmem
    refine ⟨_, exec_sParseBegin_of_ok hat hmem, fun a ha => ?_, rfl⟩
    have hcell := hcells a ha
    rw [Nat.zero_add] at hcell
    exact (Memory.read_ofPacket p a ha).trans hcell.symm
  · exact exec_sParseBegin_of_error hat (State.memRead_error_of_unwritten hk hnone hbelow)

/-- Settles O24: the response is made of PARSE_FN's bytes or of draws, and every cell of it is written. -/
theorem sParseEndWritesTheWholeResponse : Obligations.SParseEndWritesTheWholeResponse := by
  refine ⟨decode_encode .sParseEnd, fun s hat => ?_⟩
  refine ⟨fun p hwhole hclean => ?_, fun hdirty => ?_⟩
  · have hrequest := State.request_of_whole hwhole hclean
    refine ⟨_, exec_sParseEnd hat, fun a ha => ?_, ?_⟩
    · rw [s.read_closeParse_respBuf ha, State.response_of_request hrequest]
    · rw [State.closeParse, State.drawsAfterResponse_of_request hrequest]
  · have hrequest := State.request_of_torn hdirty
    refine ⟨_, exec_sParseEnd hat, fun a ha => ?_, ?_⟩
    · rw [s.read_closeParse_respBuf ha, State.response_of_no_request hrequest, getElem_drawnPacket s.draws ha]
    · rw [State.closeParse, State.drawsAfterResponse_of_no_request hrequest]

/-- Settles O25: a full FIFO, a written byte and an UNWRITTEN one are the three cases of S_TX below index 64. -/
theorem sTxSendsOneByteOrSpins : Obligations.STxSendsOneByteOrSpins := by
  refine ⟨decode_encode .sTx, fun s hat => ⟨exec_sTx_of_full hat, fun hroom hidx => ⟨fun b hbyte => ?_, ?_⟩⟩⟩
  · refine ⟨_, exec_sTx_of_byte hat hroom hidx hbyte, index_succ_toNat hidx, ?_⟩
    rw [State.pushTx, State.mainPcAfterTx_eq_of_index_succ hat.mainPc hidx]
  · exact exec_sTx_of_unwritten hat hroom hidx

/-- Settles O26: TX_TAKE's own guard is a queued byte. -/
theorem txTakeSendsTheOldestByte : Obligations.TxTakeSendsTheOldestByte :=
  ⟨decode_encode .txTake, fun _ hrun => ⟨fun _ _ => exec_txTake_of_byte hrun,
    fun hempty => exec_of_not_enabled fun ⟨_, hqueued⟩ => hqueued hempty⟩⟩

end Sys2Proof.Machine
end

section
/-! PROOF. Runs of the request/response loop: a ready packet left alone is answered whole (43_session R147, R148), and a
written response reaches the line in index order (20_memory R54). -/

namespace Sys2Proof.Machine

section
variable {s : State} {p : Packet} {b : Byte} {n : Nat}

/-! ### From the poll to the response -/

/-- A ready packet is noticed and the flag cleared before the parse begins (R140 to R142). -/
theorem execAll_poll_kick_clear (hat : s.AtMain .sPoll) (hready : s.ready = true) :
    execAll [.sPoll, .sKick, .sClear] s =
      .next { s with wdtCount := s.wdtCountAfterKick, ready := false, mainPc := .sParseBegin } := by
  obtain ⟨hfault, hidle, -⟩ := id hat
  have hpoll := exec_sPoll hat
  rw [if_pos hready] at hpoll
  have hkick := exec_sKick (s := s.goMain .sKick) ⟨hfault, hidle, rfl⟩
  rw [execAll_cons_of_next hpoll, execAll_cons_of_next hkick]
  exact execAll_cons_of_next (exec_sClear ⟨hfault, hidle, rfl⟩)

/-- With no byte drained inside the parse window the response is PARSE_FN of the packet in the buffer (R143, R144). -/
theorem execAll_parse (hat : s.AtMain .sParseBegin)
    (hpacket : ∀ (a : Nat) (ha : a < 64), Memory.read s.rxBuf a = some p[a]) :
    execAll [.sParseBegin, .sParseEnd] s = .next { s with
      reqLatch := Memory.ofPacket p
      respBuf := Memory.ofPacket (Config.parseFn p)
      parseDirty := false
      txIndex := 0
      mainPc := .sTx } := by
  obtain ⟨hfault, hidle, -⟩ := id hat
  have hrequest : (s.openParse p).request = some p := State.request_of_whole (Memory.read_ofPacket p) rfl
  have hend := exec_sParseEnd (s := s.openParse p) ⟨hfault, hidle, rfl⟩
  rw [State.closeParse, State.response_of_request hrequest, State.drawsAfterResponse_of_request hrequest] at hend
  rw [execAll_cons_of_next (exec_sParseBegin_of_ok hat (State.memRead_packet hpacket)), execAll_cons_of_next hend]
  rfl

/-! ### From the response to the line -/

/-- A byte sent into an empty FIFO and taken at once goes to the line (R145, R146). -/
theorem execAll_transmitOne (hat : s.AtMain .sTx) (hidx : s.txIndex.toNat < 64) (hempty : s.txFifo = [])
    (hdepth : 1 ≤ s.cfg.txFifoDepth) (hbyte : Memory.read s.respBuf s.txIndex.toNat = some b) :
    execAll [.sTx, .txTake] s =
      .next { s with txOut := s.txOut ++ [b], txIndex := s.txIndex + 1, mainPc := s.mainPcAfterTx } := by
  obtain ⟨hfault, hidle, hpc⟩ := id hat
  have hroom : s.txFifo.length ≠ s.cfg.txFifoDepth := by rw [hempty, List.length_nil]; omega
  have hrun : (s.pushTx b).Running := by
    refine ⟨hfault, ?_⟩
    rw [State.pushTx_mainPc, State.mainPcAfterTx_eq_of_index_succ hpc hidx]
    split <;> decide
  have hqueued : (s.pushTx b).txFifo = [b] := by rw [State.pushTx_txFifo, hempty, List.nil_append]
  rw [execAll_cons_of_next (exec_sTx_of_byte hat hroom hidx hbyte),
    execAll_cons_of_next (exec_txTake_of_byte hrun hqueued), execAll_nil, State.pushTx, hempty]

/-- The state with the first `n` bytes of the response `p` on the line (R145). -/
def State.transmitted (s : State) (p : Packet) (n : Nat) : State :=
  { s with
    txOut := s.txOut ++ p.toList.take n
    txIndex := BitVec.ofNat 7 n
    mainPc := if n = 64 then .sPoll else .sTx }

theorem State.transmitted_txIndex_toNat (hn : n ≤ 64) : (s.transmitted p n).txIndex.toNat = n :=
  Nat.mod_eq_of_lt (by omega)

/-- Before the first byte nothing has changed. -/
theorem State.transmitted_zero (hpc : s.mainPc = .sTx) (hidx : s.txIndex.toNat = 0) : s.transmitted p 0 = s := by
  have hzero : s.txIndex = BitVec.ofNat 7 0 := index_eq_zero_iff.2 hidx
  rw [State.transmitted, List.take_zero, List.append_nil, ← hzero, if_neg (by decide), ← hpc]

/-- The next byte goes behind those on the line, the index rises, and the 64th ends the loop. -/
theorem State.transmitted_succ (hn : n < 64) : s.transmitted p (n + 1) =
    { s.transmitted p n with
      txOut := (s.transmitted p n).txOut ++ [p[n]]
      txIndex := (s.transmitted p n).txIndex + 1
      mainPc := (s.transmitted p n).mainPcAfterTx } := by
  have hlen : n < p.toList.length := by rw [p.length_toList]; exact hn
  rw [State.mainPcAfterTx, State.transmitted_txIndex_toNat hn.le]
  simp only [State.transmitted, if_neg hn.ne, List.append_assoc, List.take_succ_eq_append_getElem hlen,
    Vector.getElem_toList, BitVec.ofNat_add]
  rfl

theorem transmitEach_succ (n : Nat) : transmitEach (n + 1) = transmitEach n ++ [.sTx, .txTake] := by
  rw [transmitEach, List.replicate_succ', List.flatten_append, List.flatten_singleton, transmitEach]

/-- Each byte finds the FIFO empty, so no byte waits and none is passed over. -/
theorem execAll_transmitEach (hat : s.AtMain .sTx) (hidx : s.txIndex.toNat = 0) (hempty : s.txFifo = [])
    (hdepth : 1 ≤ s.cfg.txFifoDepth)
    (hresp : ∀ (a : Nat) (ha : a < 64), Memory.read s.respBuf a = some p[a]) (hn : n ≤ 64) :
    execAll (transmitEach n) s = .next (s.transmitted p n) := by
  obtain ⟨hfault, hidle, hpc⟩ := id hat
  induction n with
  | zero => rw [State.transmitted_zero hpc hidx]; rfl
  | succ n ih =>
    have hlt : n < 64 := hn
    have hindex : (s.transmitted p n).txIndex.toNat = n := State.transmitted_txIndex_toNat hlt.le
    have hbyte : Memory.read s.respBuf (s.transmitted p n).txIndex.toNat = some p[n] := by rw [hindex, hresp n hlt]
    rw [transmitEach_succ, execAll_append_of_next (ih hlt.le), State.transmitted_succ hlt]
    exact execAll_transmitOne ⟨hfault, hidle, if_neg hlt.ne⟩ (hindex.trans_lt hlt) hempty hdepth hbyte

end

/-- Settles O53: the state after all 64 bytes. -/
theorem responseReachesTheLineInOrder : Obligations.ResponseReachesTheLineInOrder := by
  intro s p hat hidx hempty hdepth hresp
  refine ⟨_, execAll_transmitEach hat hidx hempty hdepth hresp le_rfl, State.transmitted_txIndex_toNat le_rfl, ?_⟩
  have hall : p.toList.take 64 = p.toList := List.take_of_length_le p.length_toList.le
  rw [State.transmitted, hall]
  rfl

/-- Settles O54: three steps lead to the parse with the buffer as it was, and two more answer the packet. -/
theorem readyPacketIsParsedWhole : Obligations.ReadyPacketIsParsedWhole := by
  intro s p hat hready hpacket
  obtain ⟨hfault, hidle, -⟩ := id hat
  have hparse := execAll_parse (p := p)
    (s := { s with wdtCount := s.wdtCountAfterKick, ready := false, mainPc := .sParseBegin })
    ⟨hfault, hidle, rfl⟩ hpacket
  exact ⟨_, (execAll_append_of_next (execAll_poll_kick_clear hat hready)).trans hparse, rfl, rfl, rfl,
    State.wdtCountAfterKick_of_running, Memory.read_ofPacket _⟩

end Sys2Proof.Machine
end

section
/-! PROOF. The time base and the external reset (44_timers_reset R160 to R163): one tick, a run of ticks, and the ticks
on which the deadline and the watchdog expire. -/

namespace Sys2Proof.Machine

/-- `t` is `s` after `n` ticks that did not reset: the deadline's count and a running watchdog's are lower by `n`, the
deadline is expired when it was or when its count ran out, and nothing else differs (R160). -/
structure State.Ticked (s : State) (n : Nat) (t : State) : Prop where
  wdtCount : t.wdtCount.toNat = s.wdtCount.toNat - (if s.wdtEnabled = true then n else 0)
  dlCount : t.dlCount.toNat = s.dlCount.toNat - n
  dlExpired : t.dlExpired = true ↔ s.dlExpired = true ∨ 0 < s.dlCount.toNat ∧ s.dlCount.toNat ≤ n
  frame : t = { s with wdtCount := t.wdtCount, dlCount := t.dlCount, dlExpired := t.dlExpired }

section
variable {s t u : State} {n m : Nat}

/-! ### The steps where they are taken -/

theorem exec_tick_of_live (hrun : s.Running) (hlive : s.wdtEnabled = true → s.wdtCount.toNat ≠ 1) :
    exec .tick s = .next s.countWdt.countDeadline :=
  execTick_eq_next.2 ⟨hrun, (if_neg fun h => hlive (s.wdtExpires_iff.1 h).1 (s.wdtExpires_iff.1 h).2).symm⟩

theorem exec_tick_of_last (hrun : s.Running) (hon : s.wdtEnabled = true) (hlast : s.wdtCount.toNat = 1) :
    exec .tick s = .next (s.doReset .watchdog) :=
  execTick_eq_next.2 ⟨hrun, (if_pos (s.wdtExpires_iff.2 ⟨hon, hlast⟩)).symm⟩

theorem exec_extReset (hrun : s.Running) : exec .extReset s = .next (s.doReset .external) :=
  execExtReset_eq_next.2 ⟨hrun, rfl⟩

/-! ### Runs of ticks -/

theorem State.ticked_zero (s : State) : s.Ticked 0 s where
  wdtCount := by simp
  dlCount := rfl
  dlExpired := (or_iff_left (by omega)).symm
  frame := rfl

theorem State.Ticked.wdtEnabled (h : s.Ticked n t) : t.wdtEnabled = s.wdtEnabled := by rw [h.frame]

theorem State.Ticked.mainPc (h : s.Ticked n t) : t.mainPc = s.mainPc := by rw [h.frame]

theorem State.Ticked.running (h : s.Ticked n t) (hs : s.Running) : t.Running := by
  rw [h.frame]; exact hs

theorem State.Ticked.trans (h : s.Ticked n t) (h' : t.Ticked m u) : s.Ticked (n + m) u where
  wdtCount := by
    rw [h'.wdtCount, h.wdtCount, h.wdtEnabled]
    split <;> omega
  dlCount := by rw [h'.dlCount, h.dlCount, Nat.sub_sub]
  dlExpired := by
    rw [h'.dlExpired, h.dlExpired, h.dlCount, or_assoc]
    exact or_congr_right (by omega)
  frame := by rw [h'.frame, h.frame]

/-- One tick short of the watchdog's reset (R160). A running watchdog at 0 is no reachable state (10_state R41 (5)). -/
theorem State.ticked_one (hlive : s.wdtEnabled = true → 1 < s.wdtCount.toNat) :
    s.Ticked 1 s.countWdt.countDeadline := by
  have hcount : s.wdtEnabled = true → s.wdtCount ≠ 0 := fun hon hzero => by
    have := hlive hon
    rw [count_eq_zero_iff.1 hzero] at this
    omega
  refine ⟨?_, s.dlCountAfterTick_toNat, ?_, ?_⟩
  · change s.wdtCountAfterTick.toNat = _
    split
    · next hon => exact State.wdtCountAfterTick_running hon (hcount hon)
    · next hoff => rw [State.wdtCountAfterTick_stopped (Bool.eq_false_iff.2 hoff), Nat.sub_zero]
  · exact s.dlExpiredAfterTick_iff.trans (or_congr_right (by omega))
  · rw [State.countDeadline, State.countWdt, State.drawsAfterTick_of_count hcount]

/-- A run of ticks on which a running watchdog does not expire. -/
theorem execAll_ticks (hrun : s.Running) (hlive : s.wdtEnabled = true → n < s.wdtCount.toNat) :
    ∃ t, execAll (List.replicate n .tick) s = .next t ∧ s.Ticked n t := by
  induction n with
  | zero => exact ⟨s, rfl, s.ticked_zero⟩
  | succ n ih =>
    obtain ⟨t, hexec, ht⟩ := ih fun hon => by have := hlive hon; omega
    have hlive' : t.wdtEnabled = true → 1 < t.wdtCount.toNat := by
      intro hon
      rw [ht.wdtEnabled] at hon
      have := hlive hon
      rw [ht.wdtCount, if_pos hon]
      omega
    have htick := exec_tick_of_live (ht.running hrun) fun hon => (hlive' hon).ne'
    refine ⟨_, ?_, ht.trans (State.ticked_one hlive')⟩
    rw [List.replicate_succ', execAll_append_of_next hexec, execAll_cons_of_next htick, execAll_nil]

end

/-! ### The statements -/

/-- Settles O27: TICK's one branch is on the watchdog's expiry. -/
theorem tickCountsOrResets : Obligations.TickCountsOrResets := by
  refine ⟨decode_encode .tick, fun s hrun => ⟨fun hlive => ?_, exec_tick_of_last hrun⟩⟩
  have ht := State.ticked_one hlive
  refine ⟨_, exec_tick_of_live hrun fun hon => (hlive hon).ne', ht.wdtCount, ht.dlCount, ?_, ht.frame⟩
  exact ht.dlExpired.trans (or_congr_right (by omega))

/-- Settles O28: EXT_RESET asks for no more than the active phase. -/
theorem extResetResetsAtAnyPoint : Obligations.ExtResetResetsAtAnyPoint :=
  ⟨decode_encode .extReset, fun _ => exec_extReset⟩

/-- Settles O57: a run of ticks with the watchdog stopped, whose count it leaves as it is. -/
theorem deadlineExpiresOnItsLastTick : Obligations.DeadlineExpiresOnItsLastTick := by
  intro s n hrun hoff hexpired
  have hstopped : ¬ s.wdtEnabled = true := Bool.eq_false_iff.1 hoff
  obtain ⟨t, hexec, ht⟩ := execAll_ticks (n := n) hrun fun hon => absurd hon hstopped
  have hwdt : t.wdtCount = s.wdtCount := BitVec.eq_of_toNat_eq (by rw [ht.wdtCount, if_neg hstopped, Nat.sub_zero])
  refine ⟨t, hexec, ht.dlCount, ?_, ?_⟩
  · rw [ht.dlExpired, hexpired, count_eq_zero_iff]
    omega
  · have hframe := ht.frame
    rwa [hwdt] at hframe

/-- Settles O58: `n` ticks leave a running watchdog at 1, and the next is its last. -/
theorem watchdogResetsOnItsLastTick : Obligations.WatchdogResetsOnItsLastTick := by
  intro s n hrun hon hcount
  obtain ⟨u, hexec, hu⟩ := execAll_ticks (n := n) hrun fun _ => by omega
  have hlast : u.wdtCount.toNat = 1 := by rw [hu.wdtCount, if_pos hon]; omega
  have hreset := exec_tick_of_last (hu.running hrun) (hu.wdtEnabled.trans hon) hlast
  refine ⟨u, u.doReset .watchdog, hexec, hlast, hu.mainPc, by rw [hu.frame], by rw [hu.frame], ?_, rfl, rfl, rfl, ?_,
    rfl, rfl⟩
  · rw [List.replicate_succ', execAll_append_of_next hexec, execAll_cons_of_next hreset, execAll_nil]
  · change u.txOut = s.txOut
    rw [hu.frame]

end Sys2Proof.Machine
end

section
/-! PROOF. Faults and interrupts (60_exceptions R170, R174, R175): a fault comes from a failed MemRead alone, so the
interrupt steps raise none, and under the invariant neither does any step of DISCARD_PARTIAL. -/

namespace Sys2Proof.Machine

section
variable {s t : State} {i : Instr}

/-! ### Where a fault comes from -/

/-- A step that is taken meets the global guard (00_scope R15). -/
theorem running_of_exec (h : exec i s = .next t) : s.Running := by
  by_contra hnot
  rw [exec_of_not_running i hnot] at h
  cases h

/-- A MemRead from cell 0 fails at the lowest UNWRITTEN cell (00_scope R13, R14). -/
theorem State.lowest_unwritten_of_memRead {sp : Space} {n : Nat} {r : FaultRecord} (h : s.memRead sp 0 n = .error r) :
    r.code = .unwrittenRead ∧ r.space = sp ∧ r.addr < n ∧ Memory.read (s.memory sp) r.addr = none ∧
      Memory.Written (s.memory sp) r.addr := by
  obtain ⟨hcode, hspace, -, hlt, hnone, hbelow⟩ := (s.memRead_error_iff sp 0 n r).1 h
  rw [Nat.zero_add] at hlt
  exact ⟨hcode, hspace, hlt, hnone, fun a ha => Option.isSome_iff_ne_none.2 (hbelow a a.zero_le ha)⟩

end

/-- Settles O42: a step starts with no fault, and only the transitions of a failed MemRead record one. -/
theorem faultsNameTheLowestUnwrittenCell : Obligations.FaultsNameTheLowestUnwrittenCell := by
  intro i s t r h hr
  obtain ⟨hsafe, -⟩ := running_of_exec h
  by_cases hreset : s.Resets i
  · obtain ⟨cause, rfl⟩ := exec_of_resets h hreset
    cases hr
  cases takes_of_exec h hreset with
  | cmdFaulted hat hmem =>
    obtain rfl := Option.some.inj hr
    obtain ⟨hcode, hlowest⟩ := State.lowest_unwritten_of_memRead hmem
    exact ⟨rfl, hcode, .inl ⟨rfl, hlowest⟩⟩
  | parseFaulted hat hmem =>
    obtain rfl := Option.some.inj hr
    obtain ⟨hcode, hlowest⟩ := State.lowest_unwritten_of_memRead hmem
    exact ⟨rfl, hcode, .inr (.inl ⟨rfl, hlowest⟩)⟩
  | txFaulted hat hroom hidx hmem =>
    obtain rfl := Option.some.inj hr
    exact ⟨rfl, rfl, .inr (.inr ⟨rfl, rfl, rfl, hidx, hmem⟩)⟩
  | _ => exact nomatch hsafe.symm.trans hr

section
variable {s t : State} {i : Instr}

/-! ### The interrupt context -/

/-- The three steps that can fault are MAIN's. -/
theorem exec_keeps_fault_of_not_main (h : exec i s = .next t) (hi : i.agent ≠ .main) : t.fault = s.fault := by
  obtain ⟨hsafe, -⟩ := running_of_exec h
  rw [hsafe, Option.eq_none_iff_forall_ne_some]
  intro r hr
  obtain ⟨-, -, ⟨rfl, -⟩ | ⟨rfl, -⟩ | ⟨rfl, -⟩⟩ := faultsNameTheLowestUnwrittenCell i s t r h hr
  all_goals exact hi rfl

/-- Every MAIN step has its place (R72). -/
theorem exists_microOp (hi : i.agent = .main) : ∃ m, microOp i = some m := by
  cases i
  case rxByte | rxSilence | txTake | tick | isrEntry | isrDrain | isrExit | extReset => cases hi
  all_goals exact ⟨_, rfl⟩

theorem State.Enabled.isrPc_idle (h : s.Enabled i) (hi : i.agent = .main) : s.isrPc = .idle := by
  obtain ⟨m, hm⟩ := exists_microOp hi
  obtain ⟨-, hidle, -⟩ := (State.enabled_main_iff hm).1 h
  exact hidle

theorem not_resets_of_isr (hi : i.agent = .isr) : ¬ s.Resets i := by
  rintro (rfl | ⟨rfl, -⟩) <;> cases hi

end

/-- Settles O10: a MAIN step asks for an idle context, and an interrupt step is no MAIN step and no reset. -/
theorem interruptSuspendsTheMainSequencer : Obligations.InterruptSuspendsTheMainSequencer := by
  refine fun i s t => ⟨fun hi hbusy => ?_, fun hi h => ?_, fun h => ?_⟩
  · exact exec_of_not_enabled fun henabled => hbusy (henabled.isrPc_idle hi)
  · have hmain : i.agent ≠ .main := by rw [hi]; decide
    exact ⟨(takes_of_exec h (not_resets_of_isr hi)).keeps_mainPc hmain, exec_keeps_fault_of_not_main h hmain⟩
  · exact (takes_of_exec h (not_resets_of_isr rfl)).isrPc_follows

section
variable {s t : State} {i : Instr}

/-! ### No fault under the invariant -/

/-- A reset clears the fault (R190), and any other step keeps it under DISCARD_PARTIAL. -/
theorem exec_keeps_safe (h : exec i s = .next t) (hs : s.Inv) (hpolicy : s.cfg.timeoutPolicy = .discardPartial)
    (hsafe : s.Safe) : t.Safe := by
  by_cases hreset : s.Resets i
  · obtain ⟨cause, rfl⟩ := exec_of_resets h hreset
    rfl
  · exact ((takes_of_exec h hreset).keeps_fault hs hpolicy).trans hsafe

/-- The index of S_TX stays below 64 (10_state R41 (3)), so the model's own fault is never met (assumption log 10). -/
theorem State.Inv.exec_ne_fault (hs : s.Inv) (f : Fault) : exec i s ≠ .fault f := by
  intro h
  obtain ⟨-, hat, hpast⟩ := exec_eq_fault h
  exact (hs.txIndexAtTx hat.mainPc).not_ge hpast

theorem advanceOutcome_eq_fault {o : Host.Outcome State Fault Refusal} {f : Fault} :
    advanceOutcome o = .fault f ↔ o = .fault f := by
  cases o <;> simp [advanceOutcome]

/-- The machine stops with a fault only where the meaning of its word does. -/
theorem exists_exec_eq_fault {f : Fault} (h : step s = .fault f) : ∃ i, exec i s = .fault f := by
  rw [step] at h
  split at h
  · cases h
  · split at h
    · cases h
    next i _ => exact ⟨i, advanceOutcome_eq_fault.1 h⟩

end

/-- Settles O46: the meaning of the word raises no fault and does not stop, and moving past the word adds neither. -/
theorem noFaultUnderDiscardPartial : Obligations.NoFaultUnderDiscardPartial := by
  refine ⟨fun s t hs hpolicy hsafe h => ?_, fun s f hs h => ?_⟩
  · obtain ⟨w, i, u, -, -, hexec, rfl⟩ := step_eq_next h
    exact show u.Safe from exec_keeps_safe hexec hs hpolicy hsafe
  · obtain ⟨i, hexec⟩ := exists_exec_eq_fault h
    exact hs.exec_ne_fault f hexec

end Sys2Proof.Machine
end

section
/-! PROOF. The reset itself (70_reset_and_hazards R190, R191): the value each element has after it, and power-on as a
reset of any state. -/

namespace Sys2Proof.Machine

/-- A reset leaves no cell of the three byte spaces written (R190). -/
theorem State.doReset_unwritten (s : State) (cause : ResetCause) (a : Nat) :
    Memory.read (s.doReset cause).rxBuf a = none ∧ Memory.read (s.doReset cause).reqLatch a = none ∧
      Memory.read (s.doReset cause).respBuf a = none :=
  ⟨Memory.read_nil a, Memory.read_nil a, Memory.read_nil a⟩

/-- Settles O29: the model's reset is R190's table, field by field. -/
theorem resetLoadsEveryElement : Obligations.ResetLoadsEveryElement := by
  refine fun s cause => ⟨?table, s.doReset_unwritten cause⟩
  case table => rfl

/-- Power-on is a reset that keeps nothing of the state but its parameters (R191). -/
theorem State.powerOn_cfg_eq_doReset (s : State) :
    State.powerOn s.cfg = { s.doReset .powerOn with trace := [], tracePos := 0, draws := 0 } := rfl

/-- Settles O30: the parameters are all that power-on takes from the state that is reset. -/
theorem powerOnIsResetOfAnyState : Obligations.PowerOnIsResetOfAnyState := by
  refine ⟨?_, rfl⟩
  rintro _ s rfl
  exact s.powerOn_cfg_eq_doReset

end Sys2Proof.Machine
end

section
/-! PROOF. The model's own fields (assumption logs 2, 3, 5): no step changes the parameters or the trace, and the count
of drawn values only grows. -/

namespace Sys2Proof.Machine

theorem State.draws_le_drawsAfterResponse (s : State) : s.draws ≤ s.drawsAfterResponse := by
  cases hrequest : s.request with
  | some p => exact (State.drawsAfterResponse_of_request hrequest).ge
  | none => exact (Nat.le_add_right _ _).trans (State.drawsAfterResponse_of_no_request hrequest).ge

theorem State.drawsAfterTick_of_zero {s : State} (hon : s.wdtEnabled = true) (hzero : s.wdtCount = 0) :
    s.drawsAfterTick = s.draws + 1 := by
  rw [State.drawsAfterTick, if_pos hon, if_pos hzero]

theorem State.draws_le_drawsAfterTick (s : State) : s.draws ≤ s.drawsAfterTick := by
  by_cases hcorner : s.wdtEnabled = true ∧ s.wdtCount = 0
  · obtain ⟨hon, hzero⟩ := hcorner
    exact (Nat.le_succ _).trans (State.drawsAfterTick_of_zero hon hzero).ge
  · exact (State.drawsAfterTick_of_count fun hon hzero => hcorner ⟨hon, hzero⟩).ge

/-- Only S_PARSE_END and TICK draw; a reset keeps the count (assumption log 5). -/
theorem exec_draws {i : Instr} {s t : State} (h : exec i s = .next t) :
    s.draws ≤ t.draws ∧ (i ≠ .sParseEnd → i ≠ .tick → t.draws = s.draws) := by
  by_cases hreset : s.Resets i
  · obtain ⟨cause, rfl⟩ := exec_of_resets h hreset
    exact ⟨Nat.le_refl _, fun _ _ => rfl⟩
  cases takes_of_exec h hreset with
  | ticked => exact ⟨s.draws_le_drawsAfterTick, fun _ hi => absurd rfl hi⟩
  | parseClosed => exact ⟨s.draws_le_drawsAfterResponse, fun hi => absurd rfl hi⟩
  | _ => exact ⟨Nat.le_refl _, fun _ _ => rfl⟩

/-- Settles O39: what every step keeps, and the two steps that draw. -/
theorem noStepChangesTheParametersOrTheTrace : Obligations.NoStepChangesTheParametersOrTheTrace := by
  intro i s t h
  obtain ⟨hcfg, htrace, hpos⟩ := exec_keeps_cfg_and_trace h
  exact ⟨hcfg, htrace, hpos, exec_draws h⟩

end Sys2Proof.Machine
end

section
/-! PROOF. Placed words and the end of the trace (assumption logs 3, 4): placing a step's word in a running state makes
that step the next one, and a trace with no word left stops the machine. -/

namespace Sys2Proof.Machine

/-- Settles O5: `step` looks for its word at the head of the trace. -/
theorem emptyTraceEndsTheRun : Obligations.EmptyTraceEndsTheRun := by
  intro s htrace
  rw [step, State.nextWord, htrace, List.head?_nil]

section
variable {s : State} {i : Instr}

/-! ### Selecting the step -/

theorem State.select_of_microOp {m : MainPc} (h : microOp i = some m) :
    s.select i = { s with isrPc := .idle, mainPc := m } := by
  cases i <;> cases h <;> rfl

/-- Placing sets the sequencing alone (assumption log 4). -/
theorem State.select_frame (s : State) (i : Instr) :
    s.select i = { s with
      txFifo := (s.select i).txFifo
      rxToutPending := (s.select i).rxToutPending
      isrPc := (s.select i).isrPc
      mainPc := (s.select i).mainPc } := by
  cases i
  case txTake | isrEntry => rw [State.select]; split <;> rfl
  all_goals rfl

/-- In a running state the sequencing that placing sets is what the step's guard asks for (30_encoding R75). -/
theorem State.Running.enabled_select (hrun : s.Running) (i : Instr) : (s.select i).Enabled i := by
  cases hm : microOp i with
  | some m =>
    rw [State.enabled_main_iff hm, State.select_of_microOp hm]
    exact ⟨hrun.1, rfl, rfl⟩
  | none =>
    cases i
    case rxByte | rxSilence | tick | extReset => exact ⟨hrun, trivial⟩
    case isrDrain | isrExit => exact ⟨hrun, rfl⟩
    case txTake =>
      rw [State.select]
      split
      next => exact ⟨hrun, List.cons_ne_nil _ _⟩
      next hqueued => exact ⟨hrun, hqueued⟩
    case isrEntry =>
      rw [State.select]
      split
      next => exact ⟨hrun, rfl, .inr rfl⟩
      next hqueued => exact ⟨hrun, rfl, .inl hqueued⟩
    all_goals cases hm

/-! ### Placing its word -/

theorem ofNat_toNat_mod (w : Word) : BitVec.ofNat 16 (w.toNat % 2 ^ 16) = w := by
  rw [Nat.mod_eq_of_lt w.isLt, BitVec.ofNat_toNat, BitVec.setWidth_eq]

theorem decodeTableWord_encode (i : Instr) : decodeTableWord 16 (encode i).toNat = some i := by
  rw [decodeTableWord, ofNat_toNat_mod, decode_encode]

theorem State.withFetchWord_encode (s : State) (i : Instr) :
    s.withFetchWord 16 (encode i).toNat = State.select { s with trace := encode i :: s.trace } i := by
  rw [State.withFetchWord, decodeTableWord_encode, ofNat_toNat_mod]

/-- Placing puts the word before the trace, at the same position, and keeps the transmit index. -/
theorem State.withFetchWord_encode_keeps (s : State) (i : Instr) :
    (s.withFetchWord 16 (encode i).toNat).trace = encode i :: s.trace ∧
      (s.withFetchWord 16 (encode i).toNat).tracePos = s.tracePos ∧
      (s.withFetchWord 16 (encode i).toNat).txIndex = s.txIndex := by
  rw [State.withFetchWord_encode, State.select_frame]
  exact ⟨rfl, rfl, rfl⟩

theorem State.Running.enabled_withFetchWord (hrun : s.Running) (i : Instr) :
    (s.withFetchWord 16 (encode i).toNat).Enabled i := by
  rw [State.withFetchWord_encode]
  exact State.Running.enabled_select (s := { s with trace := encode i :: s.trace }) hrun i

end

/-- Settles O6: the placed step is enabled and its index is 0, so it is taken, and its meaning leaves the trace for the
machine's step to move past. -/
theorem placedWordRunsAfterPowerOn : Obligations.PlacedWordRunsAfterPowerOn := by
  rintro c i placed rfl
  obtain ⟨htrace, hpos, hidx⟩ := (State.powerOn c).withFetchWord_encode_keeps i
  have henabled := State.Running.enabled_withFetchWord (s := State.powerOn c) ⟨rfl, nofun⟩ i
  obtain ⟨u, hexec⟩ := enabledStepsAreTaken i _ henabled fun _ => by rw [hidx]; exact Nat.zero_lt_succ _
  have hstep := step_of_decode htrace (decode_encode i)
  rw [hexec] at hstep
  refine ⟨htrace, hpos, u, hexec, hstep, ?_, ?_⟩
  · rw [advance_of_exec htrace hexec]
    rfl
  · rw [advance_of_exec htrace hexec, hpos]
    rfl

end Sys2Proof.Machine
end

section
/-! PROOF. The corners no run reaches (assumption logs 7 to 10), each with the value the model gives it. -/

namespace Sys2Proof.Machine

section
variable {s : State}

/-- An UNWRITTEN cell in the latch leaves no whole request (assumption log 8). -/
theorem State.request_of_unwritten {k : Nat} (hk : k < 64) (hnone : Memory.read s.reqLatch k = none) :
    s.request = none := by
  rw [State.request]
  split
  · rfl
  · split
    next p hread =>
      have hcell := (Memory.readN_ok_iff s.reqLatch 0 pktSize p).1 hread k hk
      rw [Nat.zero_add, hnone] at hcell
      cases hcell
    next => rfl

theorem State.wdtCountAfterTick_of_zero (hon : s.wdtEnabled = true) (hzero : s.wdtCount = 0) :
    s.wdtCountAfterTick = Config.drawCount s.draws := by
  rw [State.wdtCountAfterTick, if_pos hon, State.wdtCountDown, if_pos hzero]

theorem exec_sTx_past_cells (hat : s.AtMain .sTx) (hroom : s.txFifo.length ≠ s.cfg.txFifoDepth)
    (hpast : 64 ≤ s.txIndex.toNat) : exec .sTx s = .fault (.noSuchCell .respBuf s.txIndex.toNat) :=
  takeIf_eq_fault.2 ⟨(s.mainAt_iff .sTx (by decide)).2 hat, by rw [if_neg (mt s.txFull_iff.1 hroom), if_pos hpast]⟩

/-- With no whole request S_PARSE_END writes 64 draws (R144; assumption logs 5, 8). -/
theorem exec_sParseEnd_of_no_request (hat : s.AtMain .sParseEnd) (hrequest : s.request = none) :
    ∃ t, exec .sParseEnd s = .next t ∧
      (∀ a, a < 64 → Memory.read t.respBuf a = some (Config.drawByte (s.draws + a))) ∧
      t = { s with
        respBuf := t.respBuf, draws := s.draws + 64, parseDirty := false, txIndex := 0, mainPc := .sTx } := by
  refine ⟨_, exec_sParseEnd hat, fun a ha => ?_, ?_⟩
  · rw [s.read_closeParse_respBuf ha, State.response_of_no_request hrequest, getElem_drawnPacket s.draws ha]
  · rw [State.closeParse, State.drawsAfterResponse_of_no_request hrequest]

/-- A running watchdog at 0 gets one draw, and the deadline counts as in any tick (R160; assumption log 9). -/
theorem exec_tick_of_zero (hrun : s.Running) (hon : s.wdtEnabled = true) (hzero : s.wdtCount = 0) :
    exec .tick s = .next { s with
      wdtCount := Config.drawCount s.draws
      draws := s.draws + 1
      dlCount := s.dlCountAfterTick
      dlExpired := s.dlExpiredAfterTick } := by
  have hlive : s.wdtCount.toNat ≠ 1 := by rw [count_eq_zero_iff.1 hzero]; decide
  rw [exec_tick_of_live hrun fun _ => hlive, State.countDeadline, State.countWdt,
    State.wdtCountAfterTick_of_zero hon hzero, State.drawsAfterTick_of_zero hon hzero]
  rfl

end

/-- Settles O31: the four corners, in the order of the logs. -/
theorem unreachableCornersAsLogged : Obligations.UnreachableCornersAsLogged := by
  refine ⟨fun s hat hcmd => ?unwrittenCode, fun s k hat hk hnone => ?unwrittenLatch,
    fun s hrun hon hzero => ?watchdogAtZero, fun s => exec_sTx_past_cells⟩
  case unwrittenCode => exact exec_cwDecide_of_other hat (by rw [hcmd]; nofun)
  case unwrittenLatch => exact exec_sParseEnd_of_no_request hat (State.request_of_unwritten hk hnone)
  case watchdogAtZero =>
    exact ⟨_, exec_tick_of_zero hrun hon hzero, s.dlCountAfterTick_toNat, s.dlExpiredAfterTick_iff, rfl⟩

end Sys2Proof.Machine
end
